-- ==== Sys2Proof/Word.lean ====
section
/-! DEFINITION. The widths the JF416 uses, the numbers that name its ports, tags, pages, streams and
pattern entries, its tables of a fixed number of like records, and its sets of numbered members. -/

namespace Sys2Proof

/-- One byte of the wire or of the frame store. -/
abbrev Byte := BitVec 8
/-- Two bytes of the wire: line numbers, byte counts, masks. -/
abbrev Word16 := BitVec 16
/-- Sequences, time-base values and counters (00_scope.md, "Sequence order", "Time", "Counters"). -/
abbrev Word32 := BitVec 32

/-- P0 to P3. -/
abbrev Port := Fin 4
/-- A lane tag, 0 to 3. -/
abbrev Tag := Fin 4
/-- A page number, 0 to 15. -/
abbrev PageNo := Fin 16
/-- S0 to S7. -/
abbrev StreamNo := Fin 8
/-- A pattern library entry, 0 to 7. -/
abbrev EntryNo := Fin 8

/-- The four ports (or the four tags), ascending. -/
def allPorts : List Port := [0, 1, 2, 3]
/-- The four tags, ascending. -/
def allTags : List Tag := [0, 1, 2, 3]
/-- The eight streams, ascending. -/
def allStreams : List StreamNo := [0, 1, 2, 3, 4, 5, 6, 7]
/-- The sixteen pages, ascending. -/
def allPages : List PageNo := [0, 1, 2, 3, 4, 5, 6, 7, 8, 9, 10, 11, 12, 13, 14, 15]

/-- Entry `i` of a table of `n` like records. -/
def Table.get {α : Type} {n : Nat} (t : Vector α n) (i : Fin n) : α := t[i.val]

/-- The table with entry `i` replaced. -/
def Table.put {α : Type} {n : Nat} (t : Vector α n) (i : Fin n) (a : α) : Vector α n := t.set i.val a

/-- The table with `f` applied to every entry. -/
def Table.map {α β : Type} {n : Nat} (f : α → β) (t : Vector α n) : Vector β n :=
  ⟨(t.toArray.toList.map f).toArray, by simp⟩

/-- Member `i` is in the set (bit `i` is 1, R173 "set of streams or ports"). -/
def hasMember {n : Nat} (b : BitVec n) (i : Fin n) : Bool := b.getLsbD i.val
/-- The set with member `i` joined. -/
def addMember {n : Nat} (b : BitVec n) (i : Fin n) : BitVec n := b ||| (1#n <<< i.val)
/-- The set with member `i` taken out. -/
def dropMember {n : Nat} (b : BitVec n) (i : Fin n) : BitVec n := b &&& ~~~(1#n <<< i.val)
/-- How many members the set has. -/
def countMembers {n : Nat} (b : BitVec n) : Nat := (List.range n).countP fun i => b.getLsbD i

end Sys2Proof
end

