-- ==== Sys2Proof/Config.lean ====
section
/-! DEFINITION. What the JF416 fixes for every run: its capacities (00_scope.md, "Capacities at a
glance"), its identity (R169), and what a byte of the frame store that nothing has written reads as.
The spec leaves no result of a command open, so there is no free value. -/

namespace Sys2Proof.Config

/-- Bytes of one page slot (R1). -/
def slotBytes : Nat := 8388608
/-- Bytes of the frame store, sixteen slots (R1). -/
def frameStoreBytes : Nat := 134217728
/-- Lines one page holds (R2, R9). -/
def maxLines : Nat := 4095
/-- Bytes in the longest line (R50). -/
def maxLineBytes : Nat := 8192
/-- Metadata bytes one page holds (R2, R10). -/
def maxMetadata : Nat := 64
/-- Payload bytes in the longest SIDEBAND (R50). -/
def maxSideband : Nat := 32
/-- Pages in the pool; the committed quotas sum to at most this (R27). -/
def poolPages : Nat := 16
/-- Most lines in an egress frame (R95, R96). -/
def maxTotalLines : Nat := 4095

/-- What a byte of the frame store that nothing has written reads as. DESIGN CHOICE, unsafe (log entry 5):
the spec does not give the contents of the attached DRAM, and no line directory reaches such a byte. -/
def unwrittenByte : Byte := 0x00#8

/-- R169. -/
def vendorCode : Word16 := 0x0A31#16
/-- R169. -/
def partCode : Word16 := 0x0416#16
/-- R169. -/
def revision : Byte := 0x01#8

end Sys2Proof.Config
end

