-- ==== Sys2Proof/Syntax.lean ====
section
/-! DEFINITION. The commands and events of the JF416: one constructor per row of spec/opcode_table.json.
A link command carries the argument bytes of R173 as they stand on the wire, so that a value outside its
range can be sent and is answered BAD_ARG. A lane packet carries its fields, its payload and its payload
check (R50, R172). Log entry 12 says which rows carry no bytes. -/

namespace Sys2Proof

inductive Instr where
  -- link interface (R169, R170)
  | readId (port : Port)
  | readTime (port : Port)
  | resetPort (port : Port)
  -- stream table (R28 to R38, R153)
  | openStream (port : Port) (stream producer tag mode quota : Byte) (lines timeout : Word16)
  | setStream (port : Port) (stream quota : Byte) (lines timeout : Word16)
  | closeStream (port : Port) (stream : Byte)
  | lockStream (port : Port) (stream : Byte)
  | queryStream (port : Port) (stream : Byte)
  -- egress timing (R97 to R111)
  | setTiming (port : Port) (linePeriod active : Word16) (backPorch frontPorch : Byte)
      (total lineBytes : Word16) (tag : Byte)
  | startEgress (port : Port)
  | stopEgress (port : Port)
  | setTracking (port : Port) (mode window : Byte)
  | trackNow (port : Port)
  -- egress source and settings (R123 to R130, R154)
  | subscribe (port : Port) (stream : Byte)
  | follow (port : Port) (leader : Byte)
  | detach (port : Port)
  | freeze (port : Port)
  | thaw (port : Port)
  | setFallback (port : Port) (action entry : Byte) (fill : Vector Byte 4)
  | lockEgress (port : Port)
  | queryEgress (port : Port) (target : Byte)
  -- pins, read-back, page and ingress queries (R146 to R153, R71)
  | pinPage (port : Port) (page : Byte)
  | pinNewest (port : Port) (stream : Byte)
  | unpin (port : Port)
  | readLine (port : Port) (selector : Byte) (index offset count : Word16)
  | readMeta (port : Port) (selector : Byte)
  | queryPage (port : Port) (page : Byte)
  | queryIngress (port : Port) (target : Byte)
  -- pattern library (R136 to R138)
  | writePattern (port : Port) (entry kind blockSize barCount : Byte) (barWidth : Word16)
      (colours : Vector Byte 16)
  | lockPattern (port : Port) (entry : Byte)
  | readPattern (port : Port) (entry : Byte)
  -- notice unit (R158 to R161)
  | readNotices (port : Port)
  | setMask (port : Port) (mask : Word16)
  | setWatch (port : Port) (stream : Byte) (compare : Word32)
  | clearWatch (port : Port)
  -- transactions that reach no block (R167)
  | badCommand (port : Port)
  | transactionDiscarded (port : Port)
  -- ingress lane (R50 to R67)
  | frameStart (port : Port) (tag : Tag) (kind : Byte) (frameNumber : Word16)
  | line (port : Port) (tag : Tag) (number : Word16) (payload : List Byte) (check : Word16)
  | sideband (port : Port) (tag : Tag) (payload : List Byte) (check : Word16)
  | frameEnd (port : Port) (tag : Tag) (status : Byte) (claimed : Word16)
  | formatError (port : Port)
  | laneDown (port : Port)
  | laneUp (port : Port)
  -- the part's own timers (R41, R99, R115)
  | stallTimerExpiry (stream : StreamNo)
  | flip (port : Port)
  | egressLine (port : Port)
  -- part inputs and the time base (R168, R171, R69)
  | powerOnReset
  | partReset
  | resetEnd
  | cfgholdChange (asserted : Bool)
  | timeBaseTick (microseconds : Nat)
  deriving DecidableEq, Repr

end Sys2Proof
end

