-- ==== Sys2Proof/WellFormed.lean ====
section
/-! DEFINITION. When a term of Instr is an event its row can name. Every argument byte of a link command
may be sent (a value out of range is answered BAD_ARG), so a command is always well formed. A lane packet
with a field outside its range of R50 is a FORMAT_ERROR (R51) and no FRAME_START, LINE, SIDEBAND or
FRAME_END. `exec` gives such a term the effect R51 gives the packet (log entry 12). -/

namespace Sys2Proof

/-- R50: kind code 0 to 63. -/
def frameStartInRange (kind : Byte) : Bool := decide (kind.toNat ≤ 63)

/-- R50: line number 0 to 4094, byte count 1 to 8192. -/
def lineInRange (number : Word16) (payload : List Byte) : Bool :=
  decide (number.toNat ≤ 4094) && decide (1 ≤ payload.length) && decide (payload.length ≤ Config.maxLineBytes)

/-- R50: byte count 1 to 32. -/
def sidebandInRange (payload : List Byte) : Bool :=
  decide (1 ≤ payload.length) && decide (payload.length ≤ Config.maxSideband)

/-- R50, R172: status GOOD (00h) or ABANDON (01h), claimed line count 0 to 4095. -/
def frameEndInRange (status : Byte) (claimed : Word16) : Bool :=
  decide (status.toNat ≤ 1) && decide (claimed.toNat ≤ Config.maxLines)

/-- The term is an event of its row. -/
def Instr.wellFormed : Instr → Bool
  | .frameStart _ _ kind _ => frameStartInRange kind
  | .line _ _ number payload _ => lineInRange number payload
  | .sideband _ _ payload _ => sidebandInRange payload
  | .frameEnd _ _ status claimed => frameEndInRange status claimed
  | .readId _ => true
  | .readTime _ => true
  | .resetPort _ => true
  | .openStream _ _ _ _ _ _ _ _ => true
  | .setStream _ _ _ _ _ => true
  | .closeStream _ _ => true
  | .lockStream _ _ => true
  | .queryStream _ _ => true
  | .setTiming _ _ _ _ _ _ _ _ => true
  | .startEgress _ => true
  | .stopEgress _ => true
  | .setTracking _ _ _ => true
  | .trackNow _ => true
  | .subscribe _ _ => true
  | .follow _ _ => true
  | .detach _ => true
  | .freeze _ => true
  | .thaw _ => true
  | .setFallback _ _ _ _ => true
  | .lockEgress _ => true
  | .queryEgress _ _ => true
  | .pinPage _ _ => true
  | .pinNewest _ _ => true
  | .unpin _ => true
  | .readLine _ _ _ _ _ => true
  | .readMeta _ _ => true
  | .queryPage _ _ => true
  | .queryIngress _ _ => true
  | .writePattern _ _ _ _ _ _ _ => true
  | .lockPattern _ _ => true
  | .readPattern _ _ => true
  | .readNotices _ => true
  | .setMask _ _ => true
  | .setWatch _ _ _ => true
  | .clearWatch _ => true
  | .badCommand _ => true
  | .transactionDiscarded _ => true
  | .formatError _ => true
  | .laneDown _ => true
  | .laneUp _ => true
  | .stallTimerExpiry _ => true
  | .flip _ => true
  | .egressLine _ => true
  | .powerOnReset => true
  | .partReset => true
  | .resetEnd => true
  | .cfgholdChange _ => true
  | .timeBaseTick _ => true

end Sys2Proof
end

