-- ==== Sys2Proof/Machine/Wire.lean ====
section
/-! DEFINITION. The wire formats of 10.6: byte order, and lane packets as bytes (R172), both ways: what the
egress builds and what a capture unit accepts. -/

namespace Sys2Proof

/-- A 16-bit field, most significant byte first (R173). -/
def be16 (w : Word16) : List Byte := [w.extractLsb' 8 8, w.extractLsb' 0 8]

/-- A 32-bit field, most significant byte first (R173). -/
def be32 (w : Word32) : List Byte :=
  [w.extractLsb' 24 8, w.extractLsb' 16 8, w.extractLsb' 8 8, w.extractLsb' 0 8]

/-- The 16-bit value of two bytes, the first the more significant (R173). -/
def word16 (hi lo : Byte) : Word16 := hi ++ lo

/-- The 32-bit value of four bytes, the first the most significant (R173). -/
def word32 (b3 b2 b1 b0 : Byte) : Word32 := b3 ++ b2 ++ b1 ++ b0

/-- A lane packet of one of the four kinds of R50, the same on ingress and egress lanes. -/
inductive LanePacket where
  | frameStart (tag : Tag) (kind : Byte) (frameNumber : Word16)
  | line (tag : Tag) (number : Word16) (payload : List Byte) (check : Word16)
  | sideband (tag : Tag) (payload : List Byte) (check : Word16)
  | frameEnd (tag : Tag) (status : Byte) (claimed : Word16)
  deriving DecidableEq, Repr

/-- The kind-and-tag byte: kind in the high four bits, bits 3 and 2 zero, tag in bits 1 and 0 (R172). -/
def kindTagByte (kind : BitVec 4) (tag : Tag) : Byte := kind ++ 0#2 ++ BitVec.ofNat 2 tag.val

/-- The tag of a kind-and-tag byte (R172). -/
def tagOfByte (b : Byte) : Tag := ⟨(b.extractLsb' 0 2).toNat, (b.extractLsb' 0 2).isLt⟩

/-- The sum of bytes modulo 256 (R172, header check). -/
def byteSum (bs : List Byte) : Byte := bs.foldl (· + ·) 0#8

/-- The payload check: the sum of the payload bytes modulo 65536 (R172). -/
def payloadCheck (bs : List Byte) : Word16 := bs.foldl (fun acc b => acc + b.setWidth 16) 0#16

/-- A received payload check holds (R52). -/
def payloadGood (payload : List Byte) (check : Word16) : Bool := decide (check = payloadCheck payload)

/-- The header fields of a packet, without the header check (R172). -/
def LanePacket.headerFields : LanePacket → List Byte
  | .frameStart tag kind frameNumber => kindTagByte 1#4 tag :: kind :: be16 frameNumber
  | .line tag number payload _ =>
      kindTagByte 2#4 tag :: (be16 number ++ be16 (BitVec.ofNat 16 payload.length))
  | .sideband tag payload _ => [kindTagByte 3#4 tag, BitVec.ofNat 8 payload.length]
  | .frameEnd tag status claimed => kindTagByte 4#4 tag :: status :: be16 claimed

/-- The payload and its check, for the kinds that carry one (R172). -/
def LanePacket.body : LanePacket → List Byte
  | .frameStart _ _ _ => []
  | .line _ _ payload check => payload ++ be16 check
  | .sideband _ payload check => payload ++ be16 check
  | .frameEnd _ _ _ => []

/-- The whole packet as bytes: header fields, the check byte that makes the header sum 0 modulo 256, and
the body (R172). -/
def LanePacket.bytes (k : LanePacket) : List Byte :=
  k.headerFields ++ (-(byteSum k.headerFields)) :: k.body

/-- The packet's fields lie in the ranges of R50. -/
def LanePacket.inRange : LanePacket → Bool
  | .frameStart _ kind _ => frameStartInRange kind
  | .line _ number payload _ => lineInRange number payload
  | .sideband _ payload _ => sidebandInRange payload
  | .frameEnd _ status claimed => frameEndInRange status claimed

/-- Split a body into the payload of `count` bytes and its check; none when the packet's length as the
lane marks it is not the length its header gives (R172). -/
def splitBody (count : Nat) (body : List Byte) : Option (List Byte × Word16) :=
  match body.drop count with
  | [hi, lo] => some (body.take count, word16 hi lo)
  | _ => none

/-- The packet the header and body of one kind spell, before the range test (R172). -/
def parseFields (first : Byte) (rest : List Byte) : Option LanePacket :=
  match (first.extractLsb' 4 4).toNat, rest with
  | 1, [kind, n1, n0, _] => some (.frameStart (tagOfByte first) kind (word16 n1 n0))
  | 2, n1 :: n0 :: c1 :: c0 :: _ :: body =>
      (splitBody (word16 c1 c0).toNat body).map fun pc =>
        .line (tagOfByte first) (word16 n1 n0) pc.1 pc.2
  | 3, c :: _ :: body =>
      (splitBody c.toNat body).map fun pc => .sideband (tagOfByte first) pc.1 pc.2
  | 4, [status, c1, c0, _] => some (.frameEnd (tagOfByte first) status (word16 c1 c0))
  | _, _ => none

/-- How many header bytes, check included, a packet of this kind has (R172); 0 for an unknown kind. -/
def headerLength (first : Byte) : Nat :=
  match (first.extractLsb' 4 4).toNat with
  | 1 => 5
  | 2 => 6
  | 3 => 3
  | 4 => 5
  | _ => 0

/-- What a capture unit reads from the bytes of one packet: none when it fails its header check in the
sense of R51 and R172 (the check, the kind, bits 3 and 2, a field out of range, or the length). -/
def LanePacket.parse (bs : List Byte) : Option LanePacket :=
  match bs with
  | [] => none
  | first :: rest =>
    if first.extractLsb' 2 2 = 0#2 ∧ byteSum (bs.take (headerLength first)) = 0#8 then
      (parseFields first rest).filter LanePacket.inRange
    else none

end Sys2Proof
end

