-- ==== Sys2Proof/Decode.lean ====
section
/-! DEFINITION. From bytes to commands. The opcode table gives no row any bits, so `decodeTableWord`
answers none. Beside it stand the wire decoders of the spec: the bytes a master clocks out within one
select period (R166, R167, R173) and the bytes of one lane packet (R172), each to exactly one command,
and the encoder of a link command's transaction. -/

namespace Sys2Proof

/-- The command table of 10.5: code, argument length, and the shortest and longest response on OK. -/
def commandTable : List (Byte × Nat × Nat × Nat) :=
  [(0x01#8, 0, 9, 9), (0x02#8, 0, 4, 4), (0x03#8, 0, 0, 0)]
  ++ [(0x10#8, 9, 0, 0), (0x11#8, 6, 0, 0), (0x12#8, 1, 0, 0), (0x13#8, 1, 0, 0), (0x14#8, 1, 102, 102)]
  ++ [(0x20#8, 11, 0, 0), (0x21#8, 0, 0, 0), (0x22#8, 0, 0, 0), (0x23#8, 2, 0, 0), (0x24#8, 0, 0, 0)]
  ++ [(0x25#8, 1, 0, 0), (0x26#8, 1, 0, 0), (0x27#8, 0, 0, 0), (0x28#8, 0, 0, 0), (0x29#8, 0, 0, 0)]
  ++ [(0x2A#8, 6, 0, 0), (0x2B#8, 0, 0, 0), (0x2C#8, 1, 82, 82)]
  ++ [(0x30#8, 1, 5, 5), (0x31#8, 1, 5, 5), (0x32#8, 0, 2, 2), (0x33#8, 7, 9, 264), (0x34#8, 1, 7, 71)]
  ++ [(0x35#8, 1, 38, 38), (0x38#8, 1, 46, 46)]
  ++ [(0x40#8, 22, 0, 0), (0x41#8, 1, 0, 0), (0x42#8, 1, 24, 24)]
  ++ [(0x50#8, 0, 14, 14), (0x51#8, 2, 0, 0), (0x52#8, 5, 5, 5), (0x53#8, 0, 0, 0)]

/-- The code is in the table and the argument length is the one the table gives for it (R167). -/
def inCommandTable (code : Byte) (length : Nat) : Bool :=
  commandTable.any fun row => decide (row.1 = code) && decide (row.2.1 = length)

/-- WRITE_PATTERN's arguments: the colour bytes are the last sixteen of the 22 (R173 argument layouts). -/
def decodeWritePattern (port : Port) (entry kind blockSize barCount w1 w0 : Byte) (colours : List Byte) :
    Instr :=
  if h : colours.length = 16 then
    .writePattern port entry kind blockSize barCount (word16 w1 w0) ⟨colours.toArray, by simp [h]⟩
  else .badCommand port

/-- A taken command: the codes of 10.5 with the argument layouts of 10.6. An unknown code or a wrong
argument length is BAD_COMMAND (R167). -/
def decodeCommand (port : Port) (code : Byte) (args : List Byte) : Instr :=
  match code.toNat, args with
  | 0x01, [] => .readId port
  | 0x02, [] => .readTime port
  | 0x03, [] => .resetPort port
  | 0x10, [st, pp, tg, md, q, l1, l0, t1, t0] =>
      .openStream port st pp tg md q (word16 l1 l0) (word16 t1 t0)
  | 0x11, [st, q, l1, l0, t1, t0] => .setStream port st q (word16 l1 l0) (word16 t1 t0)
  | 0x12, [st] => .closeStream port st
  | 0x13, [st] => .lockStream port st
  | 0x14, [st] => .queryStream port st
  | 0x20, [p1, p0, a1, a0, b, f, t1, t0, n1, n0, tg] =>
      .setTiming port (word16 p1 p0) (word16 a1 a0) b f (word16 t1 t0) (word16 n1 n0) tg
  | 0x21, [] => .startEgress port
  | 0x22, [] => .stopEgress port
  | 0x23, [md, w] => .setTracking port md w
  | 0x24, [] => .trackNow port
  | 0x25, [st] => .subscribe port st
  | 0x26, [k] => .follow port k
  | 0x27, [] => .detach port
  | 0x28, [] => .freeze port
  | 0x29, [] => .thaw port
  | 0x2A, [a, e, f0, f1, f2, f3] => .setFallback port a e #v[f0, f1, f2, f3]
  | 0x2B, [] => .lockEgress port
  | 0x2C, [k] => .queryEgress port k
  | 0x30, [p] => .pinPage port p
  | 0x31, [st] => .pinNewest port st
  | 0x32, [] => .unpin port
  | 0x33, [sel, i1, i0, o1, o0, c1, c0] =>
      .readLine port sel (word16 i1 i0) (word16 o1 o0) (word16 c1 c0)
  | 0x34, [sel] => .readMeta port sel
  | 0x35, [p] => .queryPage port p
  | 0x38, [k] => .queryIngress port k
  | 0x40, e :: k :: bs :: bc :: w1 :: w0 :: colours => decodeWritePattern port e k bs bc w1 w0 colours
  | 0x41, [e] => .lockPattern port e
  | 0x42, [e] => .readPattern port e
  | 0x50, [] => .readNotices port
  | 0x51, [m1, m0] => .setMask port (word16 m1 m0)
  | 0x52, [st, c3, c2, c1, c0] => .setWatch port st (word32 c3 c2 c1 c0)
  | 0x53, [] => .clearWatch port
  | _, _ => .badCommand port

/-- What the bytes clocked out within one select period amount to (R166, R167): the command is taken when
its last argument byte has been received; select rising before that discards the transaction; bytes after
it are ignored. -/
def decodeTransaction (port : Port) (sent : List Byte) : Instr :=
  match sent with
  | code :: length :: rest =>
    if length.toNat ≤ rest.length then decodeCommand port code (rest.take length.toNat)
    else .transactionDiscarded port
  | _ => .transactionDiscarded port

/-- The packet as an event of a port's ingress lane. -/
def LanePacket.event (port : Port) : LanePacket → Instr
  | .frameStart tag kind frameNumber => .frameStart port tag kind frameNumber
  | .line tag number payload check => .line port tag number payload check
  | .sideband tag payload check => .sideband port tag payload check
  | .frameEnd tag status claimed => .frameEnd port tag status claimed

/-- What the bytes of one lane packet amount to at the capture unit (R51, R172). -/
def decodeLanePacket (port : Port) (received : List Byte) : Instr :=
  match LanePacket.parse received with
  | some k => k.event port
  | none => .formatError port

/-- The port, code and arguments by which a master sends a link command (10.5, 10.6); none for a row that
is no command of the table. -/
def encodeCommand : Instr → Option (Port × Byte × List Byte)
  | .readId p => some (p, 0x01#8, [])
  | .readTime p => some (p, 0x02#8, [])
  | .resetPort p => some (p, 0x03#8, [])
  | .openStream p st pp tg md q l t => some (p, 0x10#8, [st, pp, tg, md, q] ++ be16 l ++ be16 t)
  | .setStream p st q l t => some (p, 0x11#8, [st, q] ++ be16 l ++ be16 t)
  | .closeStream p st => some (p, 0x12#8, [st])
  | .lockStream p st => some (p, 0x13#8, [st])
  | .queryStream p st => some (p, 0x14#8, [st])
  | .setTiming p lp a b f t n tg =>
      some (p, 0x20#8, be16 lp ++ be16 a ++ [b, f] ++ be16 t ++ be16 n ++ [tg])
  | .startEgress p => some (p, 0x21#8, [])
  | .stopEgress p => some (p, 0x22#8, [])
  | .setTracking p md w => some (p, 0x23#8, [md, w])
  | .trackNow p => some (p, 0x24#8, [])
  | .subscribe p st => some (p, 0x25#8, [st])
  | .follow p k => some (p, 0x26#8, [k])
  | .detach p => some (p, 0x27#8, [])
  | .freeze p => some (p, 0x28#8, [])
  | .thaw p => some (p, 0x29#8, [])
  | .setFallback p a e f => some (p, 0x2A#8, a :: e :: f.toList)
  | .lockEgress p => some (p, 0x2B#8, [])
  | .queryEgress p k => some (p, 0x2C#8, [k])
  | .pinPage p g => some (p, 0x30#8, [g])
  | .pinNewest p st => some (p, 0x31#8, [st])
  | .unpin p => some (p, 0x32#8, [])
  | .readLine p sel i o c => some (p, 0x33#8, sel :: (be16 i ++ be16 o ++ be16 c))
  | .readMeta p sel => some (p, 0x34#8, [sel])
  | .queryPage p g => some (p, 0x35#8, [g])
  | .queryIngress p k => some (p, 0x38#8, [k])
  | .writePattern p e k bs bc w c => some (p, 0x40#8, [e, k, bs, bc] ++ be16 w ++ c.toList)
  | .lockPattern p e => some (p, 0x41#8, [e])
  | .readPattern p e => some (p, 0x42#8, [e])
  | .readNotices p => some (p, 0x50#8, [])
  | .setMask p m => some (p, 0x51#8, be16 m)
  | .setWatch p st c => some (p, 0x52#8, st :: be32 c)
  | .clearWatch p => some (p, 0x53#8, [])
  | .badCommand _ => none
  | .transactionDiscarded _ => none
  | .frameStart _ _ _ _ => none
  | .line _ _ _ _ _ => none
  | .sideband _ _ _ _ => none
  | .frameEnd _ _ _ _ => none
  | .formatError _ => none
  | .laneDown _ => none
  | .laneUp _ => none
  | .stallTimerExpiry _ => none
  | .flip _ => none
  | .egressLine _ => none
  | .powerOnReset => none
  | .partReset => none
  | .resetEnd => none
  | .cfgholdChange _ => none
  | .timeBaseTick _ => none

/-- The command phase of a transaction: code, argument length, arguments (R166). -/
def transactionBytes (code : Byte) (args : List Byte) : List Byte :=
  code :: BitVec.ofNat 8 args.length :: args

/-- The command a word spells by the opcode table's bits: none, for the table gives no row any bits
(98_reader.md, "n_rows_with_fixed": 0). -/
def decodeTableWord (_nbits _w : Nat) : Option Instr := none

end Sys2Proof
end

