-- ==== Sys2Proof/Machine/State.lean ====
section
/-! DEFINITION. Everything the spec gives the part: the page pool (R2, R4), the stream table (R22), the
capture units (R49, R53, R70), the egress units (R95, R113), the pattern library (R134), the pin slots
(R145), the notice units (R155), the control links (R166), the time base (R69), the frame store (R1), the
CFGHOLD input (R168) and the reset in progress (R171); and the queue of waiting commands. Each record
stands beside its reset value. -/

namespace Sys2Proof.Machine

/-- Why the machine stops. -/
inductive Fault where
  /-- Raised by READ_LINE and EGRESS_LINE when a line directory locates a byte outside the 128 MiB of the
  frame store (R1): that address does not exist. Safe: no state a run reaches has such a directory
  (log entry 17). -/
  | outsideFrameStore (address : Nat)
  deriving DecidableEq, Repr

/-- Why a command has no meaning. -/
inductive Refusal where
  /-- Raised by an arm of `exec` whose command has no meaning yet. Safe. No arm raises it. -/
  | notModelled (mnemonic : String)
  deriving DecidableEq, Repr

/-! ### The page pool (file 01) -/

/-- R3. -/
inductive PageState where
  | free | filling | ready
  deriving DecidableEq, Repr

/-- A (producer port, tag) pair: a stream's binding (R26) and a page's producer (R2). -/
structure Pair where
  port : Port
  tag : Tag
  deriving DecidableEq, Repr

/-- The page record of R2. The page number is its place in `State.pages`. -/
structure Page where
  state : PageState
  stream : Option StreamNo
  producer : Option Pair
  sequence : Option Word32
  kind : Byte
  frameNumber : Word16
  startTime : Word32
  endTime : Option Word32
  lineCount : Nat
  directory : List Nat
  bytesUsed : Nat
  /-- Bits 0 to 5: TRUNCATED, DAMAGED, GAP, SHORT, LONG, META_TRUNC (R173). -/
  damage : BitVec 6
  metadata : Option (List Byte)
  viewed : Bool
  holdCount : Nat
  /-- Bits 0 to 3 the egresses of P0 to P3, bits 4 to 7 their pins (R173). -/
  holders : BitVec 8
  deriving DecidableEq, Repr

/-- The cleared values of R2. -/
def Page.cleared : Page where
  state := .free
  stream := none
  producer := none
  sequence := none
  kind := 0
  frameNumber := 0
  startTime := 0
  endTime := none
  lineCount := 0
  directory := []
  bytesUsed := 0
  damage := 0
  metadata := none
  viewed := false
  holdCount := 0
  holders := 0

/-! ### The stream table (files 02 and 04) -/

/-- R24. -/
inductive StreamState where
  | closed | waiting | live | stalled | draining
  deriving DecidableEq, Repr

/-- R22. -/
inductive Mode where
  | latest | queued
  deriving DecidableEq, Repr

/-- R40, as the microseconds left until the count reaches 0; `running 0` is a timer whose count has
reached 0 and whose expiry has not been taken (log entry 9). -/
inductive StallTimer where
  | stopped
  | running (microseconds : Nat)
  deriving DecidableEq, Repr

/-- One entry of a ready list: the page and the sequence it carries (R73). -/
structure ReadyEntry where
  page : PageNo
  sequence : Word32
  deriving DecidableEq, Repr

/-- The stream record of R22. The stream number is its place in `State.streams`. -/
structure Stream where
  state : StreamState
  owner : Option Port
  binding : Option Pair
  mode : Mode
  quota : Nat
  expectedLines : Nat
  stallTimeout : Nat
  timer : StallTimer
  lock : Bool
  nextSequence : Word32
  lastSequence : Option Word32
  /-- Oldest first (R73). -/
  ready : List ReadyEntry
  filling : Option PageNo
  lastStart : Option Word32
  lastInterval : Option Word32
  /-- Bit n set for the egress of Pn (R45, R173). -/
  subscribers : BitVec 4
  published : Word32
  skipped : Word32
  aborted : Word32
  reclaimed : Word32
  damaged : Word32
  deriving DecidableEq, Repr

/-- R23. -/
def Stream.initial : Stream where
  state := .closed
  owner := none
  binding := none
  mode := .latest
  quota := 1
  expectedLines := 0
  stallTimeout := 0
  timer := .stopped
  lock := false
  nextSequence := 1
  lastSequence := none
  ready := []
  filling := none
  lastStart := none
  lastInterval := none
  subscribers := 0
  published := 0
  skipped := 0
  aborted := 0
  reclaimed := 0
  damaged := 0

/-! ### The ingress capture units (file 03) -/

/-- R53. -/
inductive Context where
  | idle
  | capturing (page : PageNo)
  | discarding
  deriving DecidableEq, Repr

/-- A port's capture unit: the lane status (R49), one context per tag (R53), the counters of R70. -/
structure Capture where
  laneUp : Bool
  contexts : Vector Context 4
  formatErrors : Word32
  payloadErrors : Word32
  strays : Word32
  rejects : Word32
  laneDowns : Word32
  deriving DecidableEq, Repr

/-- R49, R53, R70. -/
def Capture.initial : Capture where
  laneUp := false
  contexts := Vector.replicate 4 .idle
  formatErrors := 0
  payloadErrors := 0
  strays := 0
  rejects := 0
  laneDowns := 0

/-! ### The pattern library (file 07) -/

/-- R134. -/
inductive PatternKind where
  | fixed | bars | ramp
  deriving DecidableEq, Repr

/-- The five content fields of a pattern entry (R134), also what a pattern copy holds (R139). -/
structure PatternContent where
  kind : PatternKind
  blockSize : Nat
  barCount : Nat
  barWidth : Nat
  colours : Vector Byte 16
  deriving DecidableEq, Repr

/-- R134. -/
structure PatternEntry where
  valid : Bool
  lock : Bool
  content : PatternContent
  deriving DecidableEq, Repr

/-- The cleared values of R134. -/
def PatternEntry.cleared : PatternEntry where
  valid := false
  lock := false
  content := ⟨.fixed, 1, 1, 1, Vector.replicate 16 0⟩

/-! ### The egress units (files 05 and 06) -/

/-- R95. -/
inductive RunState where
  | stopped | running
  deriving DecidableEq, Repr

/-- R95. -/
inductive TrackingMode where
  | off | auto | manual
  deriving DecidableEq, Repr

/-- R113. -/
inductive Source where
  | none
  | stream (s : StreamNo)
  | follow (k : Port)
  deriving DecidableEq, Repr

/-- R113. -/
inductive Showing where
  | page
  | pattern (e : EntryNo)
  | blank
  deriving DecidableEq, Repr

/-- R113. -/
inductive StallAction where
  | hold | pattern | blank
  deriving DecidableEq, Repr

/-- The seven values of a timing set (R96); the line period is in units of 10 ns. -/
structure TimingSet where
  linePeriod : Nat
  active : Nat
  backPorch : Nat
  frontPorch : Nat
  total : Nat
  lineBytes : Nat
  tag : Tag
  deriving DecidableEq, Repr

/-- The defaults of R96. -/
def TimingSet.default : TimingSet := ⟨2222, 720, 20, 5, 750, 3840, 0⟩

/-- A port's egress unit: the fields of R95 and R113, what of the frame in progress R104 keeps, and what
the egress lane carries. -/
structure Egress where
  run : RunState
  stopPending : Bool
  timing : TimingSet
  pendingTiming : Option TimingSet
  totalLines : Nat
  linePosition : Option Nat
  /-- The packets of the frame line at the line position have been sent (log entry 7). -/
  lineSent : Bool
  tracking : TrackingMode
  window : Nat
  trackRequest : Bool
  manualTotal : Option Nat
  source : Source
  cursor : Option Word32
  held : Option PageNo
  showing : Showing
  patternCopy : Option PatternContent
  frozen : Bool
  stallAction : StallAction
  fallbackEntry : EntryNo
  /-- The four bytes in the order in which SET_FALLBACK gives them (R104, R129). -/
  fillWord : Vector Byte 4
  /-- The fill word in force at the flip that began the frame in progress (R104; log entry 16). -/
  frameFill : Vector Byte 4
  lock : Bool
  flips : Word32
  newFrames : Word32
  repeats : Word32
  dropped : Word32
  fallbackFrames : Word32
  /-- What the latest flip or frame line of the egress put on its lane, in order (log entry 7). -/
  lane : List LanePacket
  deriving DecidableEq, Repr

/-- R95, R113. -/
def Egress.initial : Egress where
  run := .stopped
  stopPending := false
  timing := TimingSet.default
  pendingTiming := none
  totalLines := 750
  linePosition := none
  lineSent := false
  tracking := .off
  window := 0
  trackRequest := false
  manualTotal := none
  source := .none
  cursor := none
  held := none
  showing := .blank
  patternCopy := none
  frozen := false
  stallAction := .hold
  fallbackEntry := 0
  fillWord := Vector.replicate 4 0
  frameFill := Vector.replicate 4 0
  lock := false
  flips := 0
  newFrames := 0
  repeats := 0
  dropped := 0
  fallbackFrames := 0
  lane := []

/-! ### The notice units (file 09) -/

/-- R161. -/
structure Watch where
  stream : StreamNo
  compare : Word32
  deriving DecidableEq, Repr

/-- R155. Flags and mask in the bit order of the notice word; a mask bit of 1 is unmasked. -/
structure NoticeUnit where
  flags : BitVec 11
  stallSet : BitVec 8
  resumeSet : BitVec 8
  skipSet : BitVec 8
  drainedSet : BitVec 8
  mask : BitVec 11
  watch : Option Watch
  lineAsserted : Bool
  deriving DecidableEq, Repr

/-- R155, last column. -/
def NoticeUnit.initial : NoticeUnit := ⟨0, 0, 0, 0, 0, 0, none, false⟩

/-! ### The control links and the part (file 10) -/

/-- The status codes of 10.6. -/
inductive Status where
  | ok | badCommand | badArg | badState | denied | noRoom
  deriving DecidableEq, Repr

/-- The answer phase of a transaction (R166, R174). -/
structure Answer where
  status : Status
  lengthByte : Byte
  response : List Byte
  deriving DecidableEq, Repr

/-- R171. -/
inductive ResetKind where
  | powerOn | part
  deriving DecidableEq, Repr

/-- The frame store's listed bytes: address and byte, addresses rising, none reading as an unlisted
address does. -/
abbrev Memory := List Host.Cell

structure State where
  /-- The reset in progress, none while the part is out of reset (R171). -/
  inReset : Option ResetKind
  /-- The CFGHOLD input is asserted (R168). -/
  cfgHold : Bool
  /-- Microseconds (R69). -/
  timeBase : Word32
  /-- R1. -/
  frameStore : Memory
  pages : Vector Page 16
  /-- Head first (R4). -/
  freeList : List PageNo
  streams : Vector Stream 8
  captures : Vector Capture 4
  egresses : Vector Egress 4
  /-- The pin slots (R145). -/
  pins : Vector (Option PageNo) 4
  patterns : Vector PatternEntry 8
  notices : Vector NoticeUnit 4
  /-- The answer of each control link's transaction (R166; log entry 6). -/
  links : Vector (Option Answer) 4
  /-- Commands and events waiting, the next one first (log entry 1). -/
  pending : List Instr
  deriving DecidableEq, Repr

/-- The part right after a power-on reset has ended (R171). CFGHOLD deasserted and the frame store's
contents are DESIGN CHOICES (log entries 4 and 5). -/
def State.reset : State where
  inReset := none
  cfgHold := false
  timeBase := 0
  frameStore := []
  pages := Vector.replicate 16 Page.cleared
  freeList := allPages
  streams := Vector.replicate 8 Stream.initial
  captures := Vector.replicate 4 Capture.initial
  egresses := Vector.replicate 4 Egress.initial
  pins := Vector.replicate 4 none
  patterns := Vector.replicate 8 PatternEntry.cleared
  notices := Vector.replicate 4 NoticeUnit.initial
  links := Vector.replicate 4 none
  pending := []

end Sys2Proof.Machine
end

