-- ==== Sys2Proof/Machine/Access.lean ====
section
/-! DEFINITION. Reading and replacing one record of State: every meaning goes through these. -/

namespace Sys2Proof.Machine

/-- What a step answers. -/
abbrev Result := Host.Outcome State Fault Refusal

/-- The record of page `p`. -/
def State.page (s : State) (p : PageNo) : Page := Table.get s.pages p
/-- `s` with the record of page `p` replaced. -/
def State.setPage (s : State) (p : PageNo) (r : Page) : State := { s with pages := Table.put s.pages p r }
/-- `s` with the record of page `p` changed by `f`. -/
def State.modPage (s : State) (p : PageNo) (f : Page → Page) : State := s.setPage p (f (s.page p))

/-- The record of stream `n`. -/
def State.stream (s : State) (n : StreamNo) : Stream := Table.get s.streams n
/-- `s` with the record of stream `n` replaced. -/
def State.setStream (s : State) (n : StreamNo) (r : Stream) : State :=
  { s with streams := Table.put s.streams n r }
/-- `s` with the record of stream `n` changed by `f`. -/
def State.modStream (s : State) (n : StreamNo) (f : Stream → Stream) : State := s.setStream n (f (s.stream n))

/-- The capture unit of port `p`. -/
def State.capture (s : State) (p : Port) : Capture := Table.get s.captures p
/-- `s` with the capture unit of port `p` replaced. -/
def State.setCapture (s : State) (p : Port) (r : Capture) : State :=
  { s with captures := Table.put s.captures p r }
/-- `s` with the capture unit of port `p` changed by `f`. -/
def State.modCapture (s : State) (p : Port) (f : Capture → Capture) : State :=
  s.setCapture p (f (s.capture p))

/-- The capture context of tag `t` at port `p`. -/
def State.context (s : State) (p : Port) (t : Tag) : Context := Table.get (s.capture p).contexts t
/-- `s` with the capture context of tag `t` at port `p` replaced. -/
def State.setContext (s : State) (p : Port) (t : Tag) (c : Context) : State :=
  s.modCapture p fun u => { u with contexts := Table.put u.contexts t c }

/-- The egress unit of port `p`. -/
def State.egress (s : State) (p : Port) : Egress := Table.get s.egresses p
/-- `s` with the egress unit of port `p` replaced. -/
def State.setEgress (s : State) (p : Port) (r : Egress) : State :=
  { s with egresses := Table.put s.egresses p r }
/-- `s` with the egress unit of port `p` changed by `f`. -/
def State.modEgress (s : State) (p : Port) (f : Egress → Egress) : State := s.setEgress p (f (s.egress p))

/-- The pin slot of port `p`. -/
def State.pin (s : State) (p : Port) : Option PageNo := Table.get s.pins p
/-- `s` with the pin slot of port `p` replaced. -/
def State.setPin (s : State) (p : Port) (v : Option PageNo) : State := { s with pins := Table.put s.pins p v }

/-- Entry `e` of the pattern library. -/
def State.pattern (s : State) (e : EntryNo) : PatternEntry := Table.get s.patterns e
/-- `s` with entry `e` of the pattern library replaced. -/
def State.setPattern (s : State) (e : EntryNo) (r : PatternEntry) : State :=
  { s with patterns := Table.put s.patterns e r }

/-- The notice unit of port `p`. -/
def State.notice (s : State) (p : Port) : NoticeUnit := Table.get s.notices p
/-- `s` with the notice unit of port `p` replaced. -/
def State.setNotice (s : State) (p : Port) (r : NoticeUnit) : State :=
  { s with notices := Table.put s.notices p r }
/-- `s` with the notice unit of port `p` changed by `f`. -/
def State.modNotice (s : State) (p : Port) (f : NoticeUnit → NoticeUnit) : State :=
  s.setNotice p (f (s.notice p))

/-- The answer on the control link of port `p`. -/
def State.link (s : State) (p : Port) : Option Answer := Table.get s.links p
/-- `s` with the answer on the control link of port `p` replaced. -/
def State.setLink (s : State) (p : Port) (a : Option Answer) : State :=
  { s with links := Table.put s.links p a }

end Sys2Proof.Machine
end

