-- ==== Sys2Proof/Machine/Flags.lean ====
section
/-! DEFINITION. The flags of the part: the eleven notices of a port with their stream sets and the
interrupt line (R155, R156), and the damage flags of a page (R2, R173). -/

namespace Sys2Proof.Machine

/-- The notices that name no stream (R156). -/
inductive Notice where
  | inReject | inFormat | inLane | egLost | egFallback | egTrack | watch
  deriving DecidableEq, Repr

/-- The notices that name the stream concerned and land at its owner (R25, R156). -/
inductive OwnNotice where
  | stall | resume | skip | drained
  deriving DecidableEq, Repr

/-- The flag's bit in the notice word (10.6, "The notice word"). -/
def Notice.bit : Notice → Fin 11
  | .inReject => 4
  | .inFormat => 5
  | .inLane => 6
  | .egLost => 7
  | .egFallback => 8
  | .egTrack => 9
  | .watch => 10

/-- The flag's bit in the notice word (10.6, "The notice word"). -/
def OwnNotice.bit : OwnNotice → Fin 11
  | .stall => 0
  | .resume => 1
  | .skip => 2
  | .drained => 3

/-- The line brought into agreement: asserted exactly while a flag is both set and unmasked (R155). -/
def NoticeUnit.settle (u : NoticeUnit) : NoticeUnit :=
  { u with lineAsserted := decide (u.flags &&& u.mask ≠ 0#11) }

/-- A raise taken by the notice unit (R156). -/
def NoticeUnit.raise (u : NoticeUnit) (bit : Fin 11) : NoticeUnit :=
  NoticeUnit.settle { u with flags := addMember u.flags bit }

/-- The stream joins the flag's stream set (R156). -/
def NoticeUnit.joinSet (u : NoticeUnit) (n : OwnNotice) (st : StreamNo) : NoticeUnit :=
  match n with
  | .stall => { u with stallSet := addMember u.stallSet st }
  | .resume => { u with resumeSet := addMember u.resumeSet st }
  | .skip => { u with skipSet := addMember u.skipSet st }
  | .drained => { u with drainedSet := addMember u.drainedSet st }

/-- A notice raised at port `p` (R156). -/
def raiseAt (p : Port) (n : Notice) (s : State) : State := s.modNotice p fun u => u.raise n.bit

/-- An OWN notice raised at the stream's owner with the stream in its set (R25, R156); a stream without an
owner raises none. -/
def raiseOwn (n : OwnNotice) (st : StreamNo) (s : State) : State :=
  match (s.stream st).owner with
  | none => s
  | some o => s.modNotice o fun u => (u.joinSet n st).raise n.bit

/-- The damage flags of a page (R2). -/
inductive Damage where
  | truncated | damaged | gap | short | long | metaTrunc
  deriving DecidableEq, Repr

/-- The flag's bit (R173). -/
def Damage.bit : Damage → Fin 6
  | .truncated => 0
  | .damaged => 1
  | .gap => 2
  | .short => 3
  | .long => 4
  | .metaTrunc => 5

/-- A damage flag added when the condition holds; a flag already set stays set (R80). -/
def addDamage (set : BitVec 6) (d : Damage) (when : Bool) : BitVec 6 :=
  if when then addMember set d.bit else set

end Sys2Proof.Machine
end

