-- ==== Sys2Proof/Machine/Ops.lean ====
section
/-! DEFINITION. The operations the meanings share: the frame store, the claims on the page pool (file 01),
the stream table's aborts and release rules (R85 to R89), the sequence order, and whether the part takes
an event at all (R171, R49). -/

namespace Sys2Proof.Machine

/-! ### When an event is taken -/

/-- An event of the part, taken only while it is out of reset (R171); in a reset it has no effect. -/
def outOfReset (s : State) (taken : State) : Result :=
  if s.inReset.isSome then .next s else .next taken

/-- A packet of port `p`'s lane, taken only out of reset (R171) and while the lane is UP (R49). -/
def onLane (p : Port) (s : State) (taken : State) : Result :=
  outOfReset s (if (s.capture p).laneUp then taken else s)

/-! ### Sequence order (00_scope.md, "Sequence order") -/

/-- `a` is later than `b`. -/
def laterThan (a b : Word32) : Bool := decide (0 < (a - b).toNat) && decide ((a - b).toNat < 2147483648)

/-! ### The frame store (R1) -/

/-- The canonical form: addresses strictly rising, no entry that an unlisted address reads as. -/
abbrev Memory.wf (m : Memory) : Prop :=
  m.Pairwise (fun a b => a.1 < b.1) ∧ ∀ c ∈ m, c.2 ≠ Config.unwrittenByte

/-- The byte at an address. -/
def Memory.read (m : Memory) (a : Nat) : Byte :=
  match m with
  | [] => Config.unwrittenByte
  | c :: rest => if c.1 = a then c.2 else Memory.read rest a

/-- The store with one byte written; the canonical form is kept. -/
def Memory.write (m : Memory) (a : Nat) (v : Byte) : Memory :=
  match m with
  | [] => if v = Config.unwrittenByte then [] else [(a, v)]
  | c :: rest =>
    if a < c.1 then (if v = Config.unwrittenByte then c :: rest else (a, v) :: c :: rest)
    else if a = c.1 then (if v = Config.unwrittenByte then rest else (a, v) :: rest)
    else c :: Memory.write rest a v

/-- The store with consecutive bytes written from `a` upwards. -/
def Memory.writeAll (m : Memory) (a : Nat) (bs : List Byte) : Memory :=
  match bs with
  | [] => m
  | b :: rest => Memory.writeAll (m.write a b) (a + 1) rest

/-- `n` consecutive bytes from `a` upwards. -/
def Memory.readAll (m : Memory) (a n : Nat) : List Byte := (List.range n).map fun i => m.read (a + i)

/-- `n` bytes of the frame store; an address past its 128 MiB does not exist (R1, log entry 17). -/
def State.fetch (s : State) (a n : Nat) : Except Fault (List Byte) :=
  if a + n ≤ Config.frameStoreBytes then .ok (s.frameStore.readAll a n) else .error (.outsideFrameStore a)

/-- The slot offset of line `k`: the sum of the byte counts of the lines before it (R1). -/
def lineOffset (directory : List Nat) (k : Nat) : Nat := (directory.take k).sum

/-- The address of line `k` of page `p` (R1). -/
def lineAddress (s : State) (p : PageNo) (k : Nat) : Nat :=
  p.val * Config.slotBytes + lineOffset (s.page p).directory k

/-! ### Counting pages and quotas (R22, R27) -/

/-- A stream's page count: its FILLING and READY pages, held or not (R22). -/
def pageCount (s : State) (st : StreamNo) : Nat :=
  allPages.countP fun p => decide ((s.page p).stream = some st) && decide ((s.page p).state ≠ .free)

/-- What a stream commits: its quota unless it is CLOSED (R27). -/
def committedQuota (r : Stream) : Nat := if r.state = .closed then 0 else r.quota

/-- The committed sum of quotas (R27). -/
def committedSum (s : State) : Nat := (allStreams.map fun st => committedQuota (s.stream st)).sum

/-! ### Claims on the page pool (R7 to R18) -/

/-- The starting record of a frame (R7). -/
def Page.starting (st : StreamNo) (pr : Pair) (kind : Byte) (frameNumber : Word16) (time : Word32) : Page :=
  { Page.cleared with
    state := .filling, stream := some st, producer := some pr, kind := kind, frameNumber := frameNumber,
    startTime := time }

/-- Allocation: the head of the free list takes the starting record (R7). An empty free list, which R7 rules
out, gives no page (log entry 14). -/
def allocate (r : Page) (s : State) : Option (PageNo × State) :=
  match s.freeList with
  | [] => none
  | p :: rest => some (p, { s with freeList := rest }.setPage p r)

/-- A READY page that no one holds. -/
def unheldReady (s : State) (p : PageNo) : Bool :=
  decide ((s.page p).state = .ready) && decide ((s.page p).holdCount = 0)

/-- A READY page leaves its stream's ready list; the reclaimed counter advances when the page was never
viewed (R8, R15, R44). -/
def leaveReadyList (st : StreamNo) (p : PageNo) (s : State) : State :=
  s.modStream st fun r =>
    { r with
      ready := r.ready.filter fun e => decide (e.page ≠ p)
      reclaimed := if (s.page p).viewed then r.reclaimed else r.reclaimed + 1 }

/-- Reclaim: the oldest unheld page of the stream's ready list takes the starting record (R8). -/
def reclaim (st : StreamNo) (r : Page) (s : State) : Option (PageNo × State) :=
  match (s.stream st).ready.find? fun e => unheldReady s e.page with
  | none => none
  | some e => some (e.page, (leaveReadyList st e.page s).setPage e.page r)

/-- The record is cleared and the page joins the tail of the free list (R14, R15). -/
def clearToFree (p : PageNo) (s : State) : State :=
  { s.setPage p Page.cleared with freeList := s.freeList ++ [p] }

/-- The free of a FILLING page; declined in any other state (R14, R17). -/
def freeFilling (p : PageNo) (s : State) : State :=
  if (s.page p).state = .filling then clearToFree p s else s

/-- The free of a READY page; declined while it is held and in any other state (R15, R17). -/
def freeReady (p : PageNo) (s : State) : State :=
  if unheldReady s p then
    clearToFree p (match (s.page p).stream with
      | some st => leaveReadyList st p s
      | none => s)
  else s

/-- A holder of a page: an egress or a pin slot, of a port (R2). -/
inductive Holder where
  | egress (p : Port)
  | pin (p : Port)
  deriving DecidableEq, Repr

/-- The holder's bit (R173). -/
def Holder.bit : Holder → Fin 8
  | .egress p => ⟨p.val, by omega⟩
  | .pin p => ⟨p.val + 4, by omega⟩

/-- The record with a hold taken (R12): the holder joins, the count advances, viewed becomes true. A holder
already among the holders keeps the hold it has and the record is unchanged. -/
def Page.hold (r : Page) (h : Holder) : Page :=
  if hasMember r.holders h.bit then r
  else { r with holders := addMember r.holders h.bit, holdCount := r.holdCount + 1, viewed := true }

/-- A hold presented for page `p`; declined unless the page is READY (R12). -/
def takeHold (h : Holder) (p : PageNo) (s : State) : State :=
  if (s.page p).state = .ready then s.modPage p fun r => r.hold h else s

/-- The record with a hold given up (R13). -/
def Page.unhold (r : Page) (h : Holder) : Page :=
  { r with holders := dropMember r.holders h.bit, holdCount := r.holdCount - 1 }

/-! ### The release rules (R86 to R89) -/

/-- Every subscriber's cursor is present and not earlier than `q` (R88). -/
def passedByAll (s : State) (subscribers : BitVec 4) (q : Word32) : Bool :=
  allPorts.all fun p =>
    !hasMember subscribers p ||
      (match (s.egress p).cursor with
        | none => false
        | some c => !laterThan q c)

/-- The entries the release rule of the stream's state and mode calls for, oldest first, held or not:
LATEST all but the newest (R87), QUEUED with a subscriber those every subscriber has passed (R88), DRAINING
all (R89), CLOSED none (R86). -/
def ruleEntries (s : State) (r : Stream) : List ReadyEntry :=
  match r.state, r.mode with
  | .closed, _ => []
  | .draining, _ => r.ready
  | _, .latest => r.ready.dropLast
  | _, .queued =>
    if r.subscribers = 0#4 then [] else r.ready.filter fun e => passedByAll s r.subscribers e.sequence

/-- Frees presented for several READY pages, in order; each is declined while its page is held (R15, R16). -/
def freeAll (ps : List PageNo) (s : State) : State := ps.foldl (fun s p => freeReady p s) s

/-- A stream reaches CLOSED: OWN_DRAINED at the owner, then the owner absent (R37). -/
def reachClosed (st : StreamNo) (s : State) : State :=
  (raiseOwn .drained st s).modStream st fun r => { r with state := .closed, owner := none }

/-- A DRAINING stream left with a page count of 0 is closed (R37, R89). -/
def endDrain (st : StreamNo) (s : State) : State :=
  if (s.stream st).state = .draining ∧ pageCount s st = 0 then reachClosed st s else s

/-- An evaluation of the release rules for a stream (R86). -/
def evaluateRelease (st : StreamNo) (s : State) : State :=
  endDrain st (freeAll ((ruleEntries s (s.stream st)).map ReadyEntry.page) s)

/-- The evaluation for the stream a page belongs to (R13). -/
def evaluateReleaseOf (p : PageNo) (s : State) : State :=
  match (s.page p).stream with
  | some st => evaluateRelease st s
  | none => s

/-- A release presented for page `p`, and the evaluation it causes; a claimant that is no holder changes
nothing (R13). -/
def releaseHold (h : Holder) (p : PageNo) (s : State) : State :=
  if hasMember (s.page p).holders h.bit then evaluateReleaseOf p (s.modPage p fun r => r.unhold h) else s

/-- An egress gives up its held page, when it has one (R13). -/
def dropHeld (p : Port) (s : State) : State :=
  match (s.egress p).held with
  | none => s
  | some g => releaseHold (.egress p) g (s.modEgress p fun e => { e with held := none })

/-- A port's pin gives up its page, when it has one (R13, R148). -/
def dropPin (p : Port) (s : State) : State :=
  match s.pin p with
  | none => s
  | some g => releaseHold (.pin p) g (s.setPin p none)

/-- The egress of port `p` leaves the subscribers set of its stream, when its source is one, and the rules
of that stream are evaluated without its cursor (R45, R91). -/
def leaveSubscription (p : Port) (s : State) : State :=
  match (s.egress p).source with
  | .stream t =>
    evaluateRelease t (s.modStream t fun r => { r with subscribers := dropMember r.subscribers p })
  | _ => s

/-! ### Aborts (R85) -/

/-- The stream table's handling of a frame that ends without publication: its page is freed, the filling
page becomes absent, the aborted counter advances and OWN_SKIP is raised. A page that is no longer FILLING
was already counted, and the free is declined (R17). -/
def abortFrame (g : PageNo) (s : State) : State :=
  if (s.page g).state = .filling then
    match (s.page g).stream with
    | none => freeFilling g s
    | some st =>
      raiseOwn .skip st
        ((freeFilling g s).modStream st fun r => { r with filling := none, aborted := r.aborted + 1 })
  else s

/-- The abort of the frame a context has open, when it is CAPTURING (R54, R66, R68). -/
def abortContext (p : Port) (t : Tag) (s : State) : State :=
  match s.context p t with
  | .capturing g => abortFrame g s
  | _ => s

/-- The stall timer loaded from a timeout in ms (R40). -/
def loadedTimer (timeout : Nat) : StallTimer := if timeout = 0 then .stopped else .running (1000 * timeout)

/-- EG_LOST at every egress that follows port `k` (R127). -/
def raiseFollowersLost (k : Port) (s : State) : State :=
  allPorts.foldl (fun s j => if (s.egress j).source = .follow k then raiseAt j .egLost s else s) s

end Sys2Proof.Machine
end

