-- ==== Sys2Proof/Machine/Operands.lean ====
section
/-! DEFINITION. The arguments of link commands (R173: numbers, enumerations, ranges), the responses
(optional fields, codes), and the answer phase of a transaction (R166, R167, R174). -/

namespace Sys2Proof.Machine

/-! ### Arguments (R173) -/

/-- A number 0 to n − 1 in one byte. -/
def argBelow (n : Nat) (b : Byte) : Option (Fin n) := if h : b.toNat < n then some ⟨b.toNat, h⟩ else none

/-- R173, mode. -/
def argMode (b : Byte) : Option Mode :=
  match b.toNat with
  | 0 => some .latest
  | 1 => some .queued
  | _ => none

/-- R173, tracking mode. -/
def argTracking (b : Byte) : Option TrackingMode :=
  match b.toNat with
  | 0 => some .off
  | 1 => some .auto
  | 2 => some .manual
  | _ => none

/-- R173, stall action. -/
def argStallAction (b : Byte) : Option StallAction :=
  match b.toNat with
  | 0 => some .hold
  | 1 => some .pattern
  | 2 => some .blank
  | _ => none

/-- R173, pattern kind. -/
def argPatternKind (b : Byte) : Option PatternKind :=
  match b.toNat with
  | 0 => some .fixed
  | 1 => some .bars
  | 2 => some .ramp
  | _ => none

/-- Which held page a read command names (R150). -/
inductive Selector where
  | pin | egress
  deriving DecidableEq, Repr

/-- R173, selector. -/
def argSelector (b : Byte) : Option Selector :=
  match b.toNat with
  | 0 => some .pin
  | 1 => some .egress
  | _ => none

/-- A number lies in a range, both ends included (00_scope.md, "Numbers"). -/
def between (lo n hi : Nat) : Bool := decide (lo ≤ n) && decide (n ≤ hi)

/-- The quota, expected-lines and timeout ranges of R28 and R31. -/
def streamValuesInRange (quota : Byte) (lines timeout : Word16) : Bool :=
  between 1 quota.toNat 8 && between 0 lines.toNat 4095 && between 0 timeout.toNat 4095

/-- The timing set seven argument values name, when each lies in its range of R96 and T covers A + B + F. -/
def argTiming (linePeriod active : Word16) (backPorch frontPorch : Byte) (total lineBytes : Word16)
    (tag : Byte) : Option TimingSet :=
  match argBelow 4 tag with
  | none => none
  | some t =>
    if between 100 linePeriod.toNat 65535 && between 1 active.toNat 4095 &&
        between (active.toNat + backPorch.toNat + frontPorch.toNat) total.toNat 4095 &&
        between 1 lineBytes.toNat 8192 then
      some ⟨linePeriod.toNat, active.toNat, backPorch.toNat, frontPorch.toNat, total.toNat,
        lineBytes.toNat, t⟩
    else none

/-- The content of a pattern entry the argument values name, when each lies in its range of R134 (R136). -/
def argPattern (kind blockSize barCount : Byte) (barWidth : Word16) (colours : Vector Byte 16) :
    Option PatternContent :=
  match argPatternKind kind with
  | none => none
  | some k =>
    if between 1 blockSize.toNat 16 && [1, 2, 4, 8].contains barCount.toNat &&
        between 1 barWidth.toNat 8192 then
      some ⟨k, blockSize.toNat, barCount.toNat, barWidth.toNat, colours⟩
    else none

/-! ### Codes of responses (R173) -/

/-- A number in one byte. -/
def byteOf (n : Nat) : Byte := BitVec.ofNat 8 n
/-- A number in two bytes. -/
def two (n : Nat) : List Byte := be16 (BitVec.ofNat 16 n)
/-- A flag or switch. -/
def flagByte (b : Bool) : Byte := if b then 1 else 0
/-- A set of ports. -/
def portSetByte (b : BitVec 4) : Byte := b.setWidth 8
/-- Optional field whose value takes `n` bytes: a presence byte, then the value's bytes, 00h when absent. -/
def optional {α : Type} (n : Nat) (value : α → List Byte) : Option α → List Byte
  | none => 0#8 :: List.replicate n 0#8
  | some a => 1#8 :: value a
/-- An optional number in one byte. -/
def optionalNumber {n : Nat} : Option (Fin n) → List Byte := optional 1 fun i => [byteOf i.val]
/-- An optional 32-bit value. -/
def optionalWord : Option Word32 → List Byte := optional 4 be32

/-- A pair as its port and tag bytes (10.6). -/
def Pair.bytes (pr : Pair) : List Byte := [byteOf pr.port.val, byteOf pr.tag.val]

def StreamState.code : StreamState → Byte
  | .closed => 0
  | .waiting => 1
  | .live => 2
  | .stalled => 3
  | .draining => 4

def PageState.code : PageState → Byte
  | .free => 0
  | .filling => 1
  | .ready => 2

def Context.code : Context → Byte
  | .idle => 0
  | .capturing _ => 1
  | .discarding => 2

def Mode.code : Mode → Byte
  | .latest => 0
  | .queued => 1

def RunState.code : RunState → Byte
  | .stopped => 0
  | .running => 1

def TrackingMode.code : TrackingMode → Byte
  | .off => 0
  | .auto => 1
  | .manual => 2

def StallAction.code : StallAction → Byte
  | .hold => 0
  | .pattern => 1
  | .blank => 2

def PatternKind.code : PatternKind → Byte
  | .fixed => 0
  | .bars => 1
  | .ramp => 2

def Source.bytes : Source → List Byte
  | .none => [0, 0]
  | .stream st => [1, byteOf st.val]
  | .follow k => [2, byteOf k.val]

def Showing.bytes : Showing → List Byte
  | .page => [0, 0]
  | .pattern e => [1, byteOf e.val]
  | .blank => [2, 0]

/-- The seven values in the layout of SET_TIMING (10.6). -/
def TimingSet.bytes (t : TimingSet) : List Byte :=
  two t.linePeriod ++ two t.active ++ [byteOf t.backPorch, byteOf t.frontPorch] ++ two t.total ++
    two t.lineBytes ++ [byteOf t.tag.val]

/-- 10.6, status codes. -/
def Status.code : Status → Byte
  | .ok => 0
  | .badCommand => 1
  | .badArg => 2
  | .badState => 3
  | .denied => 4
  | .noRoom => 5

/-! ### The answer phase (R166, R167, R174) -/

/-- The answer of a refused command: no response (R167). -/
def Answer.refusal (st : Status) : Answer := ⟨st, 0, []⟩

/-- The answer of a command that returns OK: the length byte holds the number of response bytes (R174). -/
def Answer.ok (response : List Byte) : Answer := ⟨.ok, byteOf response.length, response⟩

/-- The answer of READ_LINE, whose length byte holds the number of data bytes less one (R174). -/
def Answer.line (before data : List Byte) : Answer := ⟨.ok, byteOf (data.length - 1), before ++ data⟩

/-- The bytes of the answer phase (R166). -/
def Answer.bytes (a : Answer) : List Byte := a.status.code :: a.lengthByte :: a.response

/-- What the master reads at byte `n` of a transaction whose command phase had `argCount` argument bytes:
00h in the command phase, then the answer, then 00h (R166). -/
def clockedOut (argCount : Nat) (answer : Option Answer) (n : Nat) : Byte :=
  if n < 2 + argCount then 0#8
  else match answer with
    | none => 0#8
    | some a => a.bytes.getD (n - (2 + argCount)) 0#8

/-- What a routed command comes to: a refusal, which changes no state (R167), a new state with its answer,
or a fault. -/
inductive CommandResult where
  | refuse (st : Status)
  | done (s : State) (a : Answer)
  | stop (f : Fault)

/-- A command that returns OK with a response of plain bytes. -/
def CommandResult.ok (s : State) (response : List Byte) : CommandResult := .done s (Answer.ok response)

/-- The result put on the link: the state the command leaves and the answer it returns (R166, R167). -/
def answered (p : Port) (s : State) : CommandResult → Result
  | .refuse st => .next (s.setLink p (some (Answer.refusal st)))
  | .done s' a => .next (s'.setLink p (some a))
  | .stop f => .fault f

/-- A command taken on the link of port `p`; in a reset the part takes no transaction (R171). -/
def onLink (p : Port) (s : State) (r : CommandResult) : Result :=
  if s.inReset.isSome then .next s else answered p s r

end Sys2Proof.Machine
end

