-- ==== Sys2Proof/Machine/Flip.lean ====
section
/-! DEFINITION. What an egress does at a flip (file 06, R115 to R122; file 05, R98, R102, R103, R108 to
R110) and at each line of its frame (R99, R104, R105), with the lines of the pattern library (R141 to R144). -/

namespace Sys2Proof.Machine

/-! ### Pending timing and the stop (R98, R102, R127) -/

/-- A pending timing becomes current and discards the manual total (R98, without the total lines). -/
def Egress.applyPending (e : Egress) : Egress :=
  match e.pendingTiming with
  | none => e
  | some t => { e with timing := t, pendingTiming := none, manualTotal := none }

/-- R98 at a STOPPED egress: the current total lines becomes the new T as well. -/
def Egress.applyPendingStopped (e : Egress) : Egress :=
  match e.pendingTiming with
  | none => e
  | some t => { e with timing := t, pendingTiming := none, manualTotal := none, totalLines := t.total }

/-- The egress fields after a stopping flip (R102); the pattern copy is absent (R114, R139). -/
def Egress.stopped (e : Egress) : Egress :=
  { e with
    showing := .blank, patternCopy := none, stopPending := false, linePosition := none, lineSent := false
    run := .stopped, lane := [] }

/-- The cursor made absent, with the evaluation a subscribed egress's change of cursor causes (R102, R90). -/
def clearCursor (p : Port) (s : State) : State :=
  let cleared := s.modEgress p fun e => { e with cursor := none }
  match (s.egress p).source with
  | .stream st => evaluateRelease st cleared
  | _ => cleared

/-- A stopping flip (R102), with EG_LOST at the followers (R127). -/
def stoppingFlip (p : Port) (s : State) : State :=
  raiseFollowersLost p
    ((clearCursor p (dropHeld p s)).modEgress p fun e => e.stopped.applyPendingStopped)

/-! ### Rate tracking (R108 to R110) -/

/-- The interval a measurement reads: the last interval of the stream that is the source (R108). -/
def trackedInterval (s : State) (e : Egress) : Option Word32 :=
  match e.source with
  | .stream st => (s.stream st).lastInterval
  | _ => none

/-- The measured lines: interval × 100 / line period, rounded down (R108). -/
def measuredLines (t : TimingSet) (interval : Word32) : Nat := interval.toNat * 100 / t.linePeriod

/-- The measurement is in the window (R108). -/
def inWindow (t : TimingSet) (window lines : Nat) : Bool :=
  decide (lines ≤ t.total + window) && decide (t.total ≤ lines + window) &&
    between (t.active + t.backPorch + t.frontPorch) lines Config.maxTotalLines

/-- A measurement evaluated: the total it gives, and whether EG_TRACK is raised (R109, R110). -/
def evaluateTracking (e : Egress) (interval : Option Word32) : Nat × Bool :=
  match interval with
  | none => (e.timing.total, false)
  | some i =>
    if inWindow e.timing e.window (measuredLines e.timing i) then (measuredLines e.timing i, false)
    else (e.timing.total, true)

/-- The tracking rule of the mode: the egress with its current total lines set, and whether EG_TRACK is
raised (R109, R110). -/
def Egress.track (e : Egress) (interval : Option Word32) : Egress × Bool :=
  match e.tracking with
  | .off => ({ e with totalLines := e.timing.total }, false)
  | .auto =>
    let m := evaluateTracking e interval
    ({ e with totalLines := m.1 }, m.2)
  | .manual =>
    if e.trackRequest then
      let m := evaluateTracking e interval
      ({ e with totalLines := m.1, manualTotal := some m.1, trackRequest := false }, m.2)
    else ({ e with totalLines := e.manualTotal.getD e.timing.total }, false)

/-- Step 3 of the flip decision (R109, R110). -/
def trackTotal (p : Port) (s : State) : State :=
  let e := s.egress p
  let m := e.track (trackedInterval s e)
  if m.2 then raiseAt p .egTrack (s.setEgress p m.1) else s.setEgress p m.1

/-! ### Choosing the frame (R116 to R122) -/

/-- The frame shows a page taken from elsewhere than the egress held, or the page it held (R117, R121). -/
def Egress.show (e : Egress) (v : Showing) (copy : Option PatternContent) : Egress :=
  { e with showing := v, patternCopy := copy }

/-- BLANK, any held page released (R118 to R121). -/
def showBlank (p : Port) (s : State) : State := (dropHeld p s).modEgress p fun e => e.show .blank none

/-- The egress's own PATTERN fallback: entry e copied as it stands, or BLANK when it is not valid (R122,
R139); any held page released. -/
def showOwnPattern (p : Port) (s : State) : State :=
  let n := (s.egress p).fallbackEntry
  let entry := s.pattern n
  (dropHeld p s).modEgress p fun e =>
    if entry.valid then e.show (.pattern n) (some entry.content) else e.show .blank none

/-- The held page repeated (R118, R119, R121). -/
def repeatPage (p : Port) (s : State) : State := s.modEgress p fun e => { e with repeats := e.repeats + 1 }

/-- No candidate on a WAITING or LIVE stream (R118). -/
def noCandidate (p : Port) (s : State) : State :=
  match (s.egress p).held, (s.egress p).stallAction with
  | some _, _ => repeatPage p s
  | none, .pattern => showOwnPattern p s
  | none, .hold => showBlank p s
  | none, .blank => showBlank p s

/-- No candidate on a STALLED stream (R119). -/
def stallFrame (p : Port) (s : State) : State :=
  match (s.egress p).stallAction, (s.egress p).held with
  | .hold, some _ => repeatPage p s
  | .hold, none => showBlank p s
  | .pattern, _ => showOwnPattern p s
  | .blank, _ => showBlank p s

/-- The entries later than the cursor; all of them when it is absent (R117). -/
def laterEntries (cursor : Option Word32) (ready : List ReadyEntry) : List ReadyEntry :=
  match cursor with
  | none => ready
  | some c => ready.filter fun e => laterThan e.sequence c

/-- The candidate: the newest (LATEST) or the oldest (QUEUED) entry later than the cursor (R117). -/
def candidate (r : Stream) (cursor : Option Word32) : Option ReadyEntry :=
  match r.mode with
  | .latest => (laterEntries cursor r.ready).getLast?
  | .queued => (laterEntries cursor r.ready).head?

/-- R117 steps 3 and 4: the dropped counter of a LATEST take with the cursor present, then cursor, held
page, showing, pattern copy and new frames counter. -/
def Egress.take (e : Egress) (mode : Mode) (c : ReadyEntry) : Egress :=
  { e with
    dropped := match mode, e.cursor with
      | .latest, some q => e.dropped + (c.sequence - q - 1)
      | _, _ => e.dropped
    cursor := some c.sequence
    held := some c.page
    showing := .page
    patternCopy := none
    newFrames := e.newFrames + 1 }

/-- R117 step 1: a page other than the candidate is released. -/
def releaseUnless (p : Port) (g : PageNo) (s : State) : State :=
  if (s.egress p).held = some g then s else dropHeld p s

/-- A flip with source STREAM(s) that is not frozen (R117 to R119). A hold that is declined makes the egress
read the list again and choose again (`tries` bounds how often, log entry 13). -/
def takeFromStream (p : Port) (st : StreamNo) (tries : Nat) (s : State) : State :=
  match tries, candidate (s.stream st) (s.egress p).cursor with
  | tries + 1, some c =>
    let released := releaseUnless p c.page s
    if (released.page c.page).state = .ready then
      evaluateRelease st
        ((takeHold (.egress p) c.page released).modEgress p fun e => e.take (s.stream st).mode c)
    else takeFromStream p st tries released
  | _, _ => if (s.stream st).state = .stalled then stallFrame p s else noCandidate p s

/-- A follower takes its leader's page (R121): kept and repeated, or taken in place of the one it held. A
hold that the page pool declines shows BLANK (log entry 13). -/
def followPage (p : Port) (g : PageNo) (s : State) : State :=
  if (s.egress p).held = some g then (repeatPage p s).modEgress p fun e => e.show .page none
  else
    let released := dropHeld p s
    if (released.page g).state = .ready then
      (takeHold (.egress p) g released).modEgress p fun e =>
        { e.show .page none with held := some g, newFrames := e.newFrames + 1 }
    else showBlank p released

/-- A flip with source FOLLOW(k) that is not frozen (R121). -/
def takeFromLeader (p k : Port) (s : State) : State :=
  let l := s.egress k
  match l.run, l.held, l.showing with
  | .stopped, _, _ => showBlank p s
  | .running, some g, _ => followPage p g s
  | .running, none, .pattern n => (dropHeld p s).modEgress p fun e => e.show (.pattern n) l.patternCopy
  | .running, none, _ => showBlank p s

/-- Steps 4 and 5 of the flip decision: the freeze rule (R116) or the rule of the source (R117 to R121). -/
def chooseFrame (p : Port) (s : State) : State :=
  let e := s.egress p
  match e.source with
  | .none => showBlank p s
  | .stream st => if e.frozen then repeatPage p s else takeFromStream p st ((s.stream st).ready.length + 1) s
  | .follow k => if e.frozen then repeatPage p s else takeFromLeader p k s

/-- Step 6: the fallback frames counter, and EG_FALLBACK when showing passes from PAGE to PATTERN or BLANK
(R122). -/
def settleFallback (p : Port) (before : Showing) (s : State) : State :=
  if (s.egress p).showing = .page then s
  else
    let counted := s.modEgress p fun e => { e with fallbackFrames := e.fallbackFrames + 1 }
    if before = .page then raiseAt p .egFallback counted else counted

/-! ### The start of the frame on the lane (R99, R103) -/

/-- The metadata in SIDEBAND packets of 32 bytes, the last with what remains (R103). -/
def metadataPackets (tag : Tag) (metadata : Option (List Byte)) : List LanePacket :=
  match metadata with
  | none => []
  | some m =>
    if m.length ≤ 32 then [.sideband tag m (payloadCheck m)]
    else [.sideband tag (m.take 32) (payloadCheck (m.take 32)),
      .sideband tag (m.drop 32) (payloadCheck (m.drop 32))]

/-- The FRAME_START of the frame and its metadata (R103). -/
def frameOpening (s : State) (e : Egress) : List LanePacket :=
  match e.showing, e.held with
  | .page, some g =>
    let r := s.page g
    .frameStart e.timing.tag r.kind ((r.sequence.getD 0).setWidth 16) :: metadataPackets e.timing.tag r.metadata
  | _, _ => [.frameStart e.timing.tag 0 0]

/-- The frame begun: line 0 (R99), the fill word of the flip (R104), the opening packets (R103). -/
def beginFrame (p : Port) (s : State) : State :=
  let opening := frameOpening s (s.egress p)
  s.modEgress p fun e =>
    { e with linePosition := some 0, lineSent := false, frameFill := e.fillWord, lane := opening }

/-- Steps 2 to 7 of the flip decision and the start of the frame (R115). -/
def fullFlip (p : Port) (s : State) : State :=
  let before := (s.egress p).showing
  let timed := s.modEgress p Egress.applyPending
  let chosen := settleFallback p before (chooseFrame p (trackTotal p timed))
  beginFrame p (chosen.modEgress p fun e => { e with flips := e.flips + 1 })

/-- The flip decision of a RUNNING egress (R115). -/
def flipDecision (p : Port) (s : State) : State :=
  if (s.egress p).stopPending then stoppingFlip p s else fullFlip p s

/-- The frame line the next EGRESS_LINE is about: line 0 first, then one after another; none when the egress
is STOPPED or the frame has no line left (R99, log entry 7). -/
def nextFrameLine (e : Egress) : Option Nat :=
  match e.run, e.linePosition with
  | .running, some n =>
    if e.lineSent then (if n + 1 < e.totalLines then some (n + 1) else none) else some n
  | _, _ => none

/-- FLIP (R99, R115): taken when the last line of the frame in progress has passed. Before that, and in a
STOPPED egress, the timing generator gives no flip, and nothing changes (log entry 8). -/
def execFlip (p : Port) (s : State) : Result :=
  let e := s.egress p
  outOfReset s (if e.run = .running ∧ nextFrameLine e = none then flipDecision p s else s)

/-! ### The lines of the frame (R104, R105, R141 to R144) -/

/-- Bytes `a` to `b − 1` of fill (R104, R144). -/
def fillBytes (fill : Vector Byte 4) (a b : Nat) : List Byte :=
  (List.range (b - a)).map fun j => Table.get fill ⟨(a + j) % 4, Nat.mod_lt _ (by decide)⟩

/-- Colour byte `i` of a pattern's content; 16 bytes, so an index of 16 or more does not arise. -/
def PatternContent.colour (c : PatternContent) (i : Nat) : Byte :=
  Table.get c.colours ⟨i % 16, Nat.mod_lt _ (by decide)⟩

/-- The bar byte `j` lies in (R142). -/
def barOf (c : PatternContent) (j : Nat) : Nat := min (j / c.barWidth) (c.barCount - 1)

/-- Byte `j` of a generated line (R141 to R143). -/
def PatternContent.lineByte (c : PatternContent) (j : Nat) : Byte :=
  match c.kind with
  | .fixed => c.colour (j % c.blockSize)
  | .bars => c.colour (2 * barOf c j + (j - barOf c j * c.barWidth) % 2)
  | .ramp => c.colour 0 + BitVec.ofNat 8 j * c.colour 1

/-- A generated line of `n` bytes (R105, R141 to R143). -/
def PatternContent.line (c : PatternContent) (n : Nat) : List Byte := (List.range n).map c.lineByte

/-- The payload of active line `k` of a PAGE frame (R104). -/
def pageLinePayload (s : State) (e : Egress) (g : PageNo) (k : Nat) : Except Fault (List Byte) :=
  let r := s.page g
  if k < r.lineCount then
    let n := min (r.directory.getD k 0) e.timing.lineBytes
    (s.fetch (lineAddress s g k) n).map fun bs => bs ++ fillBytes e.frameFill n e.timing.lineBytes
  else .ok (fillBytes e.frameFill 0 e.timing.lineBytes)

/-- The payload of active line `k` of the frame in progress (R104, R105). -/
def linePayload (s : State) (e : Egress) (k : Nat) : Except Fault (List Byte) :=
  match e.showing, e.held, e.patternCopy with
  | .page, some g, _ => pageLinePayload s e g k
  | .pattern _, _, some c => .ok (c.line e.timing.lineBytes)
  | _, _, _ => .ok (fillBytes e.frameFill 0 e.timing.lineBytes)

/-- The packets of active line `k`: its LINE, and the FRAME_END after the last one (R104, R105). -/
def activeLinePackets (t : TimingSet) (k : Nat) (payload : List Byte) : List LanePacket :=
  .line t.tag (BitVec.ofNat 16 k) payload (payloadCheck payload) ::
    (if k + 1 = t.active then [.frameEnd t.tag 0 (BitVec.ofNat 16 t.active)] else [])

/-- The packets of frame line `n`: none on a blank line (R99, R104, R105). -/
def frameLinePackets (s : State) (e : Egress) (n : Nat) : Except Fault (List LanePacket) :=
  if e.timing.backPorch ≤ n ∧ n < e.timing.backPorch + e.timing.active then
    (linePayload s e (n - e.timing.backPorch)).map (activeLinePackets e.timing (n - e.timing.backPorch))
  else .ok []

/-- EGRESS_LINE (R99, R104, R105). With no frame line left the lane carries nothing (log entry 7). -/
def execEgressLine (p : Port) (s : State) : Result :=
  let e := s.egress p
  match nextFrameLine e with
  | none => outOfReset s (s.setEgress p { e with lane := [] })
  | some n =>
    match frameLinePackets s e n with
    | .ok packets =>
      outOfReset s (s.setEgress p { e with linePosition := some n, lineSent := true, lane := packets })
    | .error f => if s.inReset.isSome then .next s else .fault f

end Sys2Proof.Machine
end

