-- ==== Sys2Proof/Machine/Streams.lean ====
section
/-! DEFINITION. The stream table's commands and events (file 02): OPEN_STREAM, SET_STREAM, CLOSE_STREAM,
LOCK_STREAM, QUERY_STREAM, STALL_TIMER_EXPIRY. -/

namespace Sys2Proof.Machine

/-- The stream a pair is bound to, if any (R26). -/
def boundStream (s : State) (pr : Pair) : Option StreamNo :=
  allStreams.find? fun st => decide ((s.stream st).binding = some pr)

/-- WAITING, LIVE or STALLED: bound, may be subscribed, takes its owner's commands (R24, R30). -/
def StreamState.isOpen : StreamState → Bool
  | .waiting => true
  | .live => true
  | .stalled => true
  | .closed => false
  | .draining => false

/-- The record OPEN_STREAM sets (R29). -/
def Stream.opened (owner : Port) (pr : Pair) (mode : Mode) (quota lines timeout : Nat) : Stream :=
  { Stream.initial with
    state := .waiting, owner := some owner, binding := some pr, mode := mode, quota := quota,
    expectedLines := lines, stallTimeout := timeout, timer := loadedTimer timeout }

/-- The tests of R28 after the ranges, and the effect of R29. -/
def openStream (p : Port) (st : StreamNo) (pr : Pair) (mode : Mode) (quota lines timeout : Nat) (s : State) :
    CommandResult :=
  if s.cfgHold then .refuse .denied
  else if (s.stream st).state ≠ .closed then .refuse .badState
  else if (boundStream s pr).isSome then .refuse .badState
  else if committedSum s + quota > Config.poolPages then .refuse .noRoom
  else .ok (s.setStream st (Stream.opened p pr mode quota lines timeout)) []

/-- OPEN_STREAM (R28, R29). -/
def execOpenStream (p : Port) (stream producer tag mode quota : Byte) (lines timeout : Word16) (s : State) :
    Result :=
  onLink p s <|
    match argBelow 8 stream, argBelow 4 producer, argBelow 4 tag, argMode mode with
    | some st, some pp, some tg, some md =>
      if streamValuesInRange quota lines timeout then
        openStream p st ⟨pp, tg⟩ md quota.toNat lines.toNat timeout.toNat s
      else .refuse .badArg
    | _, _, _, _ => .refuse .badArg

/-- Tests 2 to 5 of R30, in order; `lockTested` says whether test 5 applies to the command. -/
def ownerTests (p : Port) (st : StreamNo) (lockTested : Bool) (s : State) : Option Status :=
  if s.cfgHold then some .denied
  else if !(s.stream st).state.isOpen then some .badState
  else if (s.stream st).owner ≠ some p then some .denied
  else if lockTested && (s.stream st).lock then some .denied
  else none

/-- The three values written together; the timer is loaded only when the timeout changes (R31, R32). -/
def Stream.withValues (r : Stream) (quota lines timeout : Nat) : Stream :=
  { r with
    quota := quota, expectedLines := lines, stallTimeout := timeout
    timer := if timeout = r.stallTimeout then r.timer else loadedTimer timeout }

/-- Test 6 of R30 and the effect of R31 and R32. -/
def setStream (st : StreamNo) (quota lines timeout : Nat) (s : State) : CommandResult :=
  if quota < pageCount s st then .refuse .badState
  else if (s.stream st).quota < quota ∧
      committedSum s - (s.stream st).quota + quota > Config.poolPages then .refuse .noRoom
  else .ok (s.modStream st fun r => r.withValues quota lines timeout) []

/-- SET_STREAM (R30 to R32). -/
def execSetStream (p : Port) (stream quota : Byte) (lines timeout : Word16) (s : State) : Result :=
  onLink p s <|
    match argBelow 8 stream with
    | none => .refuse .badArg
    | some st =>
      if streamValuesInRange quota lines timeout then
        match ownerTests p st true s with
        | some refusal => .refuse refusal
        | none => setStream st quota.toNat lines.toNat timeout.toNat s
      else .refuse .badArg

/-- R33: the stream unbound, its timer stopped, its filling page freed as an abort, and the context of the
former binding discarding. -/
def closeUnbind (st : StreamNo) (s : State) : State :=
  let unbound := s.modStream st fun r => { r with binding := none, timer := .stopped }
  match (s.stream st).filling with
  | none => unbound
  | some g =>
    match (s.stream st).binding with
    | none => abortFrame g unbound
    | some pr => (abortFrame g unbound).setContext pr.port pr.tag .discarding

/-- R34 and R132: one subscriber loses its source and cursor, and EG_LOST is raised at its port. -/
def endSubscription (j : Port) (s : State) : State :=
  raiseAt j .egLost (s.modEgress j fun e => { e with source := .none, cursor := none })

/-- R34: every subscription ended, and the subscribers set emptied. The release rules are not evaluated in
between: the frees of R35 that follow take every page such an evaluation could take, in the same order
(DEDUCED, log entry 15). -/
def closeSubscriptions (st : StreamNo) (s : State) : State :=
  let subscribers := (s.stream st).subscribers
  (allPorts.foldl (fun s j => if hasMember subscribers j then endSubscription j s else s) s).modStream st
    fun r => { r with subscribers := 0#4 }

/-- R35: the unheld READY pages freed, oldest first, and the stream DRAINING or CLOSED. -/
def closeDrain (st : StreamNo) (s : State) : State :=
  let freed := freeAll ((s.stream st).ready.map ReadyEntry.page) s
  if pageCount freed st = 0 then reachClosed st freed
  else freed.modStream st fun r => { r with state := .draining }

/-- CLOSE_STREAM (R30, R33 to R35). -/
def execCloseStream (p : Port) (stream : Byte) (s : State) : Result :=
  onLink p s <|
    match argBelow 8 stream with
    | none => .refuse .badArg
    | some st =>
      match ownerTests p st true s with
      | some refusal => .refuse refusal
      | none => .ok (closeDrain st (closeSubscriptions st (closeUnbind st s))) []

/-- LOCK_STREAM (R30, R38). -/
def execLockStream (p : Port) (stream : Byte) (s : State) : Result :=
  onLink p s <|
    match argBelow 8 stream with
    | none => .refuse .badArg
    | some st =>
      match ownerTests p st false s with
      | some refusal => .refuse refusal
      | none => .ok (s.modStream st fun r => { r with lock := true }) []

/-- Whole milliseconds remaining, none when the timer is stopped; a timer whose count has reached 0 reads
as stopped (R40, log entry 9). -/
def StallTimer.milliseconds : StallTimer → Option Nat
  | .stopped => none
  | .running 0 => none
  | .running (n + 1) => some (n / 1000 + 1)

/-- Eight ready-list entries of page and sequence, unused ones 00h (10.6). -/
def readyBytes (ready : List ReadyEntry) : List Byte :=
  let used := (ready.take 8).map fun e => byteOf e.page.val :: be32 e.sequence
  used.flatten ++ List.replicate (5 * (8 - used.length)) 0#8

/-- The response of QUERY_STREAM (R153, 10.6). -/
def streamReport (st : StreamNo) (s : State) : List Byte :=
  let r := s.stream st
  [byteOf st.val, r.state.code] ++ optionalNumber r.owner ++ optional 2 Pair.bytes r.binding ++
    [r.mode.code, byteOf r.quota] ++ two r.expectedLines ++ two r.stallTimeout ++
    optional 2 two r.timer.milliseconds ++ [flagByte r.lock] ++ be32 r.nextSequence ++
    optionalWord r.lastSequence ++ [byteOf r.ready.length] ++ readyBytes r.ready ++
    optionalNumber r.filling ++ optionalWord r.lastStart ++ optionalWord r.lastInterval ++
    [portSetByte r.subscribers, byteOf (pageCount s st)] ++ be32 r.published ++ be32 r.skipped ++
    be32 r.aborted ++ be32 r.reclaimed ++ be32 r.damaged ++ [byteOf (committedSum s)]

/-- QUERY_STREAM (R153). -/
def execQueryStream (p : Port) (stream : Byte) (s : State) : Result :=
  onLink p s <|
    match argBelow 8 stream with
    | none => .refuse .badArg
    | some st => .ok s (streamReport st s)

/-- The effect of an expiry on the stream: the timer stopped, a WAITING or LIVE stream STALLED (R41). -/
def expire (st : StreamNo) (s : State) : State :=
  let stoppedTimer := s.modStream st fun r => { r with timer := .stopped }
  match (s.stream st).state with
  | .waiting => raiseOwn .stall st (stoppedTimer.modStream st fun r => { r with state := .stalled })
  | .live => raiseOwn .stall st (stoppedTimer.modStream st fun r => { r with state := .stalled })
  | _ => stoppedTimer

/-- STALL_TIMER_EXPIRY (R40, R41). A timer that is stopped or has time left has no expiry to take: a
FRAME_START or SET_STREAM that reloaded it came first (R41, log entry 9). -/
def execStallTimerExpiry (st : StreamNo) (s : State) : Result :=
  outOfReset s <|
    match (s.stream st).timer with
    | .running 0 => expire st s
    | _ => s

end Sys2Proof.Machine
end

