-- ==== Sys2Proof/Machine/Egress.lean ====
section
/-! DEFINITION. The commands an egress takes from its own port's link (files 05 and 06): SET_TIMING,
START_EGRESS, STOP_EGRESS, SET_TRACKING, TRACK_NOW, SUBSCRIBE, FOLLOW, DETACH, FREEZE, THAW, SET_FALLBACK,
LOCK_EGRESS; and QUERY_EGRESS (R154). -/

namespace Sys2Proof.Machine

/-- A command of the port's own egress: DENIED when the egress is locked (R130), else its effect. -/
def unlessLocked (p : Port) (s : State) (r : CommandResult) : CommandResult :=
  if (s.egress p).lock then .refuse .denied else r

/-- A command that only changes fields of the port's own egress and returns OK. -/
def egressOk (p : Port) (f : Egress → Egress) (s : State) : CommandResult := .ok (s.modEgress p f) []

/-- A timing set stored as pending, current at once when the egress is STOPPED (R97). -/
def Egress.storeTiming (e : Egress) (t : TimingSet) : Egress :=
  match e.run with
  | .running => { e with pendingTiming := some t }
  | .stopped => { e with pendingTiming := some t }.applyPendingStopped

/-- SET_TIMING (R97). -/
def execSetTiming (p : Port) (linePeriod active : Word16) (backPorch frontPorch : Byte)
    (total lineBytes : Word16) (tag : Byte) (s : State) : Result :=
  onLink p s <|
    match argTiming linePeriod active backPorch frontPorch total lineBytes tag with
    | none => .refuse .badArg
    | some t => unlessLocked p s (egressOk p (fun e => e.storeTiming t) s)

/-- The egress RUNNING, its first flip taken within the event (R100, R115). -/
def startEgress (p : Port) (s : State) : State :=
  flipDecision p (s.modEgress p fun e => { e with run := .running, stopPending := false, linePosition := none })

/-- START_EGRESS (R100). -/
def execStartEgress (p : Port) (s : State) : Result :=
  onLink p s <| unlessLocked p s <|
    if (s.egress p).run = .running then .refuse .badState else .ok (startEgress p s) []

/-- STOP_EGRESS (R101): stop pending on a RUNNING egress, no effect on a STOPPED one. -/
def execStopEgress (p : Port) (s : State) : Result :=
  onLink p s <| unlessLocked p s <|
    egressOk p (fun e => { e with stopPending := decide (e.run = .running) || e.stopPending }) s

/-- SET_TRACKING (R111). -/
def execSetTracking (p : Port) (mode window : Byte) (s : State) : Result :=
  onLink p s <|
    match argTracking mode with
    | none => .refuse .badArg
    | some m =>
      unlessLocked p s <| egressOk p
        (fun e => { e with tracking := m, window := window.toNat, trackRequest := false, manualTotal := none }) s

/-- TRACK_NOW (R110). -/
def execTrackNow (p : Port) (s : State) : Result :=
  onLink p s <| unlessLocked p s <|
    if (s.egress p).tracking = .manual then egressOk p (fun e => { e with trackRequest := true }) s
    else .refuse .badState

/-- R123: the egress leaves its stream, then joins `st` with its cursor absent. -/
def subscribe (p : Port) (st : StreamNo) (s : State) : State :=
  let left := leaveSubscription p s
  let joined := left.modStream st fun r => { r with subscribers := addMember r.subscribers p }
  evaluateRelease st (joined.modEgress p fun e => { e with source := .stream st, cursor := none })

/-- SUBSCRIBE (R123). -/
def execSubscribe (p : Port) (stream : Byte) (s : State) : Result :=
  onLink p s <|
    match argBelow 8 stream with
    | none => .refuse .badArg
    | some st =>
      unlessLocked p s <|
        if (s.stream st).state.isOpen then .ok (subscribe p st s) [] else .refuse .badState

/-- The source is FOLLOW. -/
def Source.isFollow : Source → Bool
  | .follow _ => true
  | .stream _ => false
  | .none => false

/-- Some egress follows port `p` (R124 test 4). -/
def isFollowed (s : State) (p : Port) : Bool := allPorts.any fun j => decide ((s.egress j).source = .follow p)

/-- The source changed to NONE or FOLLOW: any subscription left, the cursor absent (R124, R125). -/
def changeSource (p : Port) (v : Source) (s : State) : State :=
  (leaveSubscription p s).modEgress p fun e => { e with source := v, cursor := none }

/-- FOLLOW (R124). -/
def execFollow (p : Port) (leader : Byte) (s : State) : Result :=
  onLink p s <|
    match argBelow 4 leader with
    | none => .refuse .badArg
    | some k =>
      if k = p then .refuse .badArg
      else unlessLocked p s <|
        if (s.egress k).source.isFollow then .refuse .badState
        else if isFollowed s p then .refuse .badState
        else .ok (changeSource p (.follow k) s) []

/-- DETACH (R125). -/
def execDetach (p : Port) (s : State) : Result :=
  onLink p s <| unlessLocked p s <| .ok (changeSource p .none s) []

/-- FREEZE (R128). -/
def execFreeze (p : Port) (s : State) : Result :=
  onLink p s <| unlessLocked p s <| egressOk p (fun e => { e with frozen := true }) s

/-- THAW (R128). -/
def execThaw (p : Port) (s : State) : Result :=
  onLink p s <| unlessLocked p s <| egressOk p (fun e => { e with frozen := false }) s

/-- SET_FALLBACK (R129). -/
def execSetFallback (p : Port) (action entry : Byte) (fill : Vector Byte 4) (s : State) : Result :=
  onLink p s <|
    match argStallAction action, argBelow 8 entry with
    | some a, some n =>
      unlessLocked p s <| egressOk p
        (fun e => { e with stallAction := a, fallbackEntry := n, fillWord := fill }) s
    | _, _ => .refuse .badArg

/-- LOCK_EGRESS (R130). -/
def execLockEgress (p : Port) (s : State) : Result :=
  onLink p s <|
    if s.cfgHold then .refuse .denied
    else unlessLocked p s <| egressOk p (fun e => { e with lock := true }) s

/-- The ports whose egress follows port `k` (R154). -/
def followersOf (s : State) (k : Port) : BitVec 4 :=
  allPorts.foldl (fun set j => if (s.egress j).source = .follow k then addMember set j else set) 0#4

/-- The held page with its sequence (R154). -/
def heldReport (s : State) (e : Egress) : List Byte :=
  optional 5 (fun g : PageNo => byteOf g.val :: be32 ((s.page g).sequence.getD 0)) e.held

/-- The response of QUERY_EGRESS (R112, R154, 10.6). -/
def egressReport (k : Port) (s : State) : List Byte :=
  let e := s.egress k
  [byteOf k.val, e.run.code, flagByte e.stopPending] ++ e.timing.bytes ++
    optional 11 TimingSet.bytes e.pendingTiming ++ two e.totalLines ++ optional 2 two e.linePosition ++
    [e.tracking.code, byteOf e.window, flagByte e.trackRequest] ++ optional 2 two e.manualTotal ++
    e.source.bytes ++ optionalWord e.cursor ++ heldReport s e ++ e.showing.bytes ++
    [flagByte e.patternCopy.isSome, flagByte e.frozen, e.stallAction.code, byteOf e.fallbackEntry.val] ++
    e.fillWord.toList ++ [flagByte e.lock] ++ be32 e.flips ++ be32 e.newFrames ++ be32 e.repeats ++
    be32 e.dropped ++ be32 e.fallbackFrames ++ [portSetByte (followersOf s k)]

/-- QUERY_EGRESS (R154). -/
def execQueryEgress (p : Port) (target : Byte) (s : State) : Result :=
  onLink p s <|
    match argBelow 4 target with
    | none => .refuse .badArg
    | some k => .ok s (egressReport k s)

end Sys2Proof.Machine
end

