-- ==== Sys2Proof/Machine/Ingress.lean ====
section
/-! DEFINITION. The ingress lanes (files 03 and 04): FRAME_START with admission, LINE, SIDEBAND, FRAME_END
with publication, FORMAT_ERROR, LANE_DOWN, LANE_UP, QUERY_INGRESS. -/

namespace Sys2Proof.Machine

/-! ### What the capture unit counts and raises (R70) -/

/-- R51: the packet is discarded whole. -/
def formatError (p : Port) (s : State) : State :=
  raiseAt p .inFormat (s.modCapture p fun u => { u with formatErrors := u.formatErrors + 1 })

/-- R59, R60: a failed payload check reported by a CAPTURING context. -/
def payloadError (p : Port) (s : State) : State :=
  raiseAt p .inFormat (s.modCapture p fun u => { u with payloadErrors := u.payloadErrors + 1 })

/-- R64. -/
def stray (p : Port) (s : State) : State :=
  raiseAt p .inFormat (s.modCapture p fun u => { u with strays := u.strays + 1 })

/-- R55: a FRAME_START on an unbound pair. -/
def rejectFrame (p : Port) (t : Tag) (s : State) : State :=
  raiseAt p .inReject
    ((s.setContext p t .discarding).modCapture p fun u => { u with rejects := u.rejects + 1 })

/-! ### Frame start (R39, R54 to R56, R75 to R78) -/

/-- R39 step 1: WAITING and STALLED become LIVE, the second with OWN_RESUME. -/
def becomeLive (st : StreamNo) (s : State) : State :=
  match (s.stream st).state with
  | .waiting => s.modStream st fun r => { r with state := .live }
  | .stalled => raiseOwn .resume st (s.modStream st fun r => { r with state := .live })
  | _ => s

/-- R39 steps 2 and 3: the timer loaded (R40), the interval measured (R42). -/
def Stream.frameStarted (r : Stream) (time : Word32) : Stream :=
  { r with
    timer := loadedTimer r.stallTimeout
    lastInterval := match r.lastStart with
      | none => r.lastInterval
      | some t => some (time - t)
    lastStart := some time }

/-- R78. -/
def skipFrame (p : Port) (t : Tag) (st : StreamNo) (s : State) : State :=
  raiseOwn .skip st
    ((s.setContext p t .discarding).modStream st fun r => { r with skipped := r.skipped + 1 })

/-- The page admission gives the frame: an allocation below the quota, a reclaim at the quota where mode
and subscribers allow one, or none (R75). -/
def admittedPage (st : StreamNo) (start : Page) (s : State) : Option (PageNo × State) :=
  let r := s.stream st
  if pageCount s st < r.quota then allocate start s
  else if r.mode = .queued ∧ r.subscribers ≠ 0#4 then none
  else reclaim st start s

/-- R76, R77: the page recorded as the stream's filling page, the context CAPTURING it. -/
def fillPage (p : Port) (t : Tag) (st : StreamNo) (g : PageNo) (s : State) : State :=
  (s.modStream st fun r => { r with filling := some g }).setContext p t (.capturing g)

/-- Admission (R75 to R78). -/
def admitFrame (p : Port) (t : Tag) (st : StreamNo) (kind : Byte) (frameNumber : Word16) (s : State) : State :=
  match admittedPage st (Page.starting st ⟨p, t⟩ kind frameNumber s.timeBase) s with
  | some (g, s') => fillPage p t st g s'
  | none => skipFrame p t st s

/-- A FRAME_START taken for a bound pair (R39, R56). -/
def frameStartFor (p : Port) (t : Tag) (st : StreamNo) (kind : Byte) (frameNumber : Word16) (s : State) :
    State :=
  admitFrame p t st kind frameNumber ((becomeLive st s).modStream st fun r => r.frameStarted s.timeBase)

/-- A FRAME_START whose fields are in range, in the context's state (R54, R55). -/
def takeFrameStart (p : Port) (t : Tag) (kind : Byte) (frameNumber : Word16) (s : State) : State :=
  let s1 := abortContext p t s
  match boundStream s1 ⟨p, t⟩ with
  | none => rejectFrame p t s1
  | some st => frameStartFor p t st kind frameNumber s1

/-- FRAME_START (R54 to R56); a field out of range makes it a format error (R51). -/
def execFrameStart (p : Port) (t : Tag) (kind : Byte) (frameNumber : Word16) (s : State) : Result :=
  onLane p s (if frameStartInRange kind then takeFrameStart p t kind frameNumber s else formatError p s)

/-! ### Lines and metadata (R9, R10, R57 to R60) -/

/-- The context's stores are for this page: it is FILLING and carries the context's producer (R17). -/
def ownsPage (p : Port) (t : Tag) (g : PageNo) (s : State) : Bool :=
  decide ((s.page g).state = .filling) && decide ((s.page g).producer = some ⟨p, t⟩)

/-- The line fits the page (R9). -/
def lineFits (r : Page) (length : Nat) : Bool :=
  decide (r.lineCount < Config.maxLines) && decide (r.bytesUsed + length ≤ Config.slotBytes)

/-- The record with a line stored: directory, line count and bytes used advance (R9), GAP when the line
number is not the line count (R58), DAMAGED when the payload check failed (R59). -/
def Page.withLine (r : Page) (number length : Nat) (good : Bool) : Page :=
  { r with
    directory := r.directory ++ [length]
    lineCount := r.lineCount + 1
    bytesUsed := r.bytesUsed + length
    damage := addDamage (addDamage r.damage .gap (decide (number ≠ r.lineCount))) .damaged (!good) }

/-- A LINE stored, or refused for size with TRUNCATED (R57). -/
def storeLine (g : PageNo) (number : Nat) (payload : List Byte) (good : Bool) (s : State) : State :=
  let r := s.page g
  if lineFits r payload.length then
    { s.setPage g (r.withLine number payload.length good) with
      frameStore := s.frameStore.writeAll (g.val * Config.slotBytes + r.bytesUsed) payload }
  else s.setPage g { r with damage := addDamage r.damage .truncated true }

/-- The record with a SIDEBAND payload appended up to 64 bytes (R10, R60). -/
def Page.withMetadata (r : Page) (payload : List Byte) (good : Bool) : Page :=
  let had := r.metadata.getD []
  let fits := payload.take (Config.maxMetadata - had.length)
  { r with
    metadata := if had ++ fits = [] then none else some (had ++ fits)
    damage := addDamage (addDamage r.damage .metaTrunc (decide (fits.length < payload.length))) .damaged
      (!good) }

/-- A store presented by a context: declined with no trace when the page is not the context's (R17, R65);
a failed payload check is reported (R52, R59, R60). -/
def captureStore (p : Port) (t : Tag) (g : PageNo) (good : Bool) (stored : State) (s : State) : State :=
  if ownsPage p t g s then (if good then stored else payloadError p stored) else s

/-- A LINE whose fields are in range, in the context's state (R57, R63, R64). -/
def takeLine (p : Port) (t : Tag) (number : Nat) (payload : List Byte) (good : Bool) (s : State) : State :=
  match s.context p t with
  | .idle => stray p s
  | .discarding => s
  | .capturing g => captureStore p t g good (storeLine g number payload good s) s

/-- LINE (R57 to R59, R63, R64); a field out of range makes it a format error (R51). -/
def execLine (p : Port) (t : Tag) (number : Word16) (payload : List Byte) (check : Word16) (s : State) :
    Result :=
  onLane p s
    (if lineInRange number payload then takeLine p t number.toNat payload (payloadGood payload check) s
    else formatError p s)

/-- A SIDEBAND whose byte count is in range, in the context's state (R60, R63, R64). -/
def takeSideband (p : Port) (t : Tag) (payload : List Byte) (good : Bool) (s : State) : State :=
  match s.context p t with
  | .idle => stray p s
  | .discarding => s
  | .capturing g => captureStore p t g good (s.modPage g fun r => r.withMetadata payload good) s

/-- SIDEBAND (R60, R63, R64); a byte count out of range makes it a format error (R51). -/
def execSideband (p : Port) (t : Tag) (payload : List Byte) (check : Word16) (s : State) : Result :=
  onLane p s
    (if sidebandInRange payload then takeSideband p t payload (payloadGood payload check) s
    else formatError p s)

/-! ### Frame end and publication (R61, R62, R80 to R83) -/

/-- The line checks of R80 added to the flags of capture. -/
def checkedDamage (r : Page) (expected claimed : Nat) : BitVec 6 :=
  addDamage
    (addDamage (addDamage r.damage .short (decide (expected ≠ 0 ∧ r.lineCount < expected))) .long
      (decide (expected ≠ 0 ∧ expected < r.lineCount)))
    .gap (decide (claimed ≠ r.lineCount))

/-- The record READY with its flags, sequence and end time (R11, R81). -/
def Page.published (r : Page) (damage : BitVec 6) (sequence time : Word32) : Page :=
  { r with state := .ready, damage := damage, sequence := some sequence, endTime := some time }

/-- The stream record after a publication: steps 1 to 4 of R82. -/
def Stream.publish (r : Stream) (g : PageNo) (damage : BitVec 6) : Stream :=
  { r with
    ready := r.ready ++ [⟨g, r.nextSequence⟩]
    filling := none
    lastSequence := some r.nextSequence
    nextSequence := r.nextSequence + 1
    published := r.published + 1
    damaged := if damage = 0#6 then r.damaged else r.damaged + 1 }

/-- The watch fires: it names the stream and the prior sequence equals the compare value, an absent prior
counting as equal to 0 alone (R162). -/
def watchFires (w : Option Watch) (st : StreamNo) (prior : Option Word32) : Bool :=
  match w with
  | none => false
  | some w => decide (w.stream = st) && decide (prior.getD 0 = w.compare)

/-- The publication offered to the watch of every port (R83, R162). -/
def offerWatches (st : StreamNo) (prior : Option Word32) (s : State) : State :=
  allPorts.foldl (fun s j => if watchFires (s.notice j).watch st prior then raiseAt j .watch s else s) s

/-- A publication: the line checks, the page, the stream record, the watches, the release rules (R80 to
R82). -/
def publish (g : PageNo) (st : StreamNo) (claimed : Nat) (s : State) : State :=
  let r := s.stream st
  let damage := checkedDamage (s.page g) r.expectedLines claimed
  let paged := s.modPage g fun q => q.published damage r.nextSequence s.timeBase
  let listed := paged.modStream st fun r => r.publish g damage
  evaluateRelease st (offerWatches st r.lastSequence listed)

/-- FRAME_END GOOD at a CAPTURING context: the publication, declined when the page is no longer FILLING
(R61, R81). -/
def publishFrame (g : PageNo) (claimed : Nat) (s : State) : State :=
  if (s.page g).state = .filling then
    match (s.page g).stream with
    | some st => publish g st claimed s
    | none => s
  else s

/-- A FRAME_END whose fields are in range, in the context's state (R61 to R64). -/
def takeFrameEnd (p : Port) (t : Tag) (good : Bool) (claimed : Nat) (s : State) : State :=
  match s.context p t with
  | .idle => stray p s
  | .discarding => s.setContext p t .idle
  | .capturing g => (if good then publishFrame g claimed s else abortFrame g s).setContext p t .idle

/-- FRAME_END (R61 to R64); a field out of range makes it a format error (R51). -/
def execFrameEnd (p : Port) (t : Tag) (status : Byte) (claimed : Word16) (s : State) : Result :=
  onLane p s
    (if frameEndInRange status claimed then takeFrameEnd p t (decide (status = 0#8)) claimed.toNat s
    else formatError p s)

/-- FORMAT_ERROR (R51). -/
def execFormatError (p : Port) (s : State) : Result := onLane p s (formatError p s)

/-! ### The lane (R66, R67) -/

/-- R66. -/
def laneLost (p : Port) (s : State) : State :=
  raiseAt p .inLane
    ((allTags.foldl (fun s t => abortContext p t s) s).modCapture p fun u =>
      { u with laneUp := false, contexts := Vector.replicate 4 .idle, laneDowns := u.laneDowns + 1 })

/-- LANE_DOWN (R66); reported only while the lane is UP (R67, log entry 11). -/
def execLaneDown (p : Port) (s : State) : Result := onLane p s (laneLost p s)

/-- LANE_UP (R67); on a lane already UP it changes nothing. -/
def execLaneUp (p : Port) (s : State) : Result :=
  outOfReset s (s.modCapture p fun u => { u with laneUp := true })

/-! ### QUERY_INGRESS (R71) -/

/-- The context's page with its stream, when it is CAPTURING (R71). -/
def contextPage (s : State) (p : Port) (t : Tag) : Option (PageNo × StreamNo) :=
  match s.context p t with
  | .capturing g => (s.page g).stream.map fun st => (g, st)
  | _ => none

/-- One tag's part of the response (10.6). -/
def contextReport (s : State) (p : Port) (t : Tag) : List Byte :=
  (s.context p t).code :: (optional 2 (fun gs => [byteOf gs.1.val, byteOf gs.2.val]) (contextPage s p t) ++
    optionalNumber (boundStream s ⟨p, t⟩))

/-- The response of QUERY_INGRESS (R71, 10.6). -/
def ingressReport (p : Port) (s : State) : List Byte :=
  let u := s.capture p
  [byteOf p.val, flagByte u.laneUp] ++ allTags.flatMap (contextReport s p) ++ be32 u.formatErrors ++
    be32 u.payloadErrors ++ be32 u.strays ++ be32 u.rejects ++ be32 u.laneDowns

/-- QUERY_INGRESS (R71). -/
def execQueryIngress (p : Port) (target : Byte) (s : State) : Result :=
  onLink p s <|
    match argBelow 4 target with
    | none => .refuse .badArg
    | some k => .ok s (ingressReport k s)

end Sys2Proof.Machine
end

