-- ==== Sys2Proof/Machine/Link.lean ====
section
/-! DEFINITION. The commands of the link interface itself (file 10): READ_ID, READ_TIME, RESET_PORT; a taken
command it does not route, BAD_COMMAND; and a transaction it discards. -/

namespace Sys2Proof.Machine

/-- The nine bytes of READ_ID (R169). -/
def idReport (p : Port) : List Byte :=
  be16 Config.vendorCode ++ be16 Config.partCode ++ [Config.revision, byteOf p.val, 4, 16, 8]

/-- READ_ID (R169). -/
def execReadId (p : Port) (s : State) : Result := onLink p s <| .ok s (idReport p)

/-- READ_TIME (R169). -/
def execReadTime (p : Port) (s : State) : Result := onLink p s <| .ok s (be32 s.timeBase)

/-- What a port reset makes of a context, after its frame has been aborted (R68). -/
def Context.afterPortReset : Context → Context
  | .capturing _ => .discarding
  | .discarding => .idle
  | .idle => .idle

/-- Order 1 of R170: the capture unit (R68). -/
def resetCapture (p : Port) (s : State) : State :=
  (allTags.foldl (fun s t => abortContext p t s) s).modCapture p fun u =>
    { u with
      contexts := Table.map Context.afterPortReset u.contexts
      formatErrors := 0, payloadErrors := 0, strays := 0, rejects := 0, laneDowns := 0 }

/-- Order 2 of R170: an unlocked egress (R107, R131). -/
def resetEgress (p : Port) (s : State) : State :=
  if (s.egress p).lock then s
  else
    let lost := if (s.egress p).run = .running then raiseFollowersLost p s else s
    (leaveSubscription p (dropHeld p lost)).setEgress p Egress.initial

/-- Order 4 of R170: the notice unit (R164). -/
def resetNotices (p : Port) (s : State) : State := s.setNotice p NoticeUnit.initial

/-- The port reset of R170, its four blocks in order; order 3 is the pin slot (R145). -/
def resetPort (p : Port) (s : State) : State := resetNotices p (dropPin p (resetEgress p (resetCapture p s)))

/-- RESET_PORT (R170). -/
def execResetPort (p : Port) (s : State) : Result := onLink p s <| .ok (resetPort p s) []

/-- BAD_COMMAND (R167): a taken command with an unknown code or a wrong argument length. -/
def execBadCommand (p : Port) (s : State) : Result := onLink p s <| .refuse .badCommand

/-- TRANSACTION_DISCARDED (R167): nothing changes and nothing is returned; the link waits for the next fall
of select (log entry 6). -/
def execTransactionDiscarded (p : Port) (s : State) : Result := outOfReset s (s.setLink p none)

end Sys2Proof.Machine
end

