-- ==== Sys2Proof/Machine/Notices.lean ====
section
/-! DEFINITION. The notice unit's commands (file 09): READ_NOTICES, SET_MASK, SET_WATCH, CLEAR_WATCH. -/

namespace Sys2Proof.Machine

/-- The optional watch as stream and compare value (10.6, "The notice word"). -/
def watchBytes (w : Watch) : List Byte := byteOf w.stream.val :: be32 w.compare

/-- The fourteen bytes of READ_NOTICES (10.6, "The notice word"). -/
def noticeReport (u : NoticeUnit) : List Byte :=
  be16 (u.flags.setWidth 16) ++ [u.stallSet, u.resumeSet, u.skipSet, u.drainedSet] ++
    be16 (u.mask.setWidth 16) ++ optional 5 watchBytes u.watch

/-- Every flag cleared, every set emptied, the line released (R158). -/
def NoticeUnit.cleared (u : NoticeUnit) : NoticeUnit :=
  NoticeUnit.settle { u with flags := 0, stallSet := 0, resumeSet := 0, skipSet := 0, drainedSet := 0 }

/-- READ_NOTICES (R158). -/
def execReadNotices (p : Port) (s : State) : Result :=
  onLink p s <| .ok (s.modNotice p NoticeUnit.cleared) (noticeReport (s.notice p))

/-- SET_MASK (R160). -/
def execSetMask (p : Port) (mask : Word16) (s : State) : Result :=
  onLink p s <|
    if mask.extractLsb' 11 5 = 0#5 then
      .ok (s.modNotice p fun u => NoticeUnit.settle { u with mask := mask.setWidth 11 }) []
    else .refuse .badArg

/-- SET_WATCH (R161). -/
def execSetWatch (p : Port) (stream : Byte) (compare : Word32) (s : State) : Result :=
  onLink p s <|
    match argBelow 8 stream with
    | none => .refuse .badArg
    | some st =>
      .ok (s.modNotice p fun u => { u with watch := some ⟨st, compare⟩ })
        (optionalWord (s.stream st).lastSequence)

/-- CLEAR_WATCH (R161). -/
def execClearWatch (p : Port) (s : State) : Result :=
  onLink p s <| .ok (s.modNotice p fun u => { u with watch := none }) []

end Sys2Proof.Machine
end

