-- ==== Sys2Proof/Machine/Part.lean ====
section
/-! DEFINITION. The events of the part as a whole: POWER_ON_RESET, PART_RESET, RESET_END, CFGHOLD_CHANGE
(file 10, R168, R171) and TIME_BASE_TICK (R69, R40). -/

namespace Sys2Proof.Machine

/-- What a power-on reset leaves: every piece of state at its reset value, the pattern library included,
with the CFGHOLD level, an input, and the queue as they stand (R171, R135; log entries 3 to 5). -/
def State.powerOn (s : State) : State :=
  { State.reset with inReset := some .powerOn, cfgHold := s.cfgHold, pending := s.pending }

/-- What a part reset leaves: the same, but for the pattern library (R135) and the bytes of the frame store
(log entry 5), which are kept. A power-on reset that it meets stays a power-on reset (R171). -/
def State.partReset (s : State) : State :=
  { State.reset with
    inReset := if s.inReset = some .powerOn then some .powerOn else some .part
    cfgHold := s.cfgHold, pending := s.pending, patterns := s.patterns, frameStore := s.frameStore }

/-- POWER_ON_RESET (R171). -/
def execPowerOnReset (s : State) : Result := .next s.powerOn

/-- PART_RESET (R171). -/
def execPartReset (s : State) : Result := .next s.partReset

/-- RESET_END (R171). -/
def execResetEnd (s : State) : Result := .next { s with inReset := none }

/-- CFGHOLD_CHANGE (R168): an input level, which follows its pin in a reset as well. -/
def execCfgholdChange (asserted : Bool) (s : State) : Result := .next { s with cfgHold := asserted }

/-- The stall timer after `n` microseconds (R40). -/
def StallTimer.advance (n : Nat) : StallTimer → StallTimer
  | .stopped => .stopped
  | .running left => .running (left - n)

/-- The time base and the running stall timers after `n` microseconds (R69, R40). -/
def advanceTime (n : Nat) (s : State) : State :=
  { s with
    timeBase := s.timeBase + BitVec.ofNat 32 n
    streams := Table.map (fun r => { r with timer := r.timer.advance n }) s.streams }

/-- TIME_BASE_TICK (R69, R40): `n` microseconds in which nothing else happens; the row's own tick is
`n` = 1 (log entry 10). In a reset the time base stands at 0 (R171). -/
def execTimeBaseTick (n : Nat) (s : State) : Result := outOfReset s (advanceTime n s)

end Sys2Proof.Machine
end

