-- ==== Sys2Proof/Machine/Patterns.lean ====
section
/-! DEFINITION. The pattern library's commands (file 07): WRITE_PATTERN, LOCK_PATTERN, READ_PATTERN. -/

namespace Sys2Proof.Machine

/-- WRITE_PATTERN (R136). -/
def execWritePattern (p : Port) (entry kind blockSize barCount : Byte) (barWidth : Word16)
    (colours : Vector Byte 16) (s : State) : Result :=
  onLink p s <|
    match argBelow 8 entry, argPattern kind blockSize barCount barWidth colours with
    | some n, some content =>
      if s.cfgHold then .refuse .denied
      else if (s.pattern n).lock then .refuse .denied
      else .ok (s.setPattern n { s.pattern n with valid := true, content := content }) []
    | _, _ => .refuse .badArg

/-- LOCK_PATTERN (R137). -/
def execLockPattern (p : Port) (entry : Byte) (s : State) : Result :=
  onLink p s <|
    match argBelow 8 entry with
    | none => .refuse .badArg
    | some n =>
      if s.cfgHold then .refuse .denied
      else if (s.pattern n).valid then .ok (s.setPattern n { s.pattern n with lock := true }) []
      else .refuse .badState

/-- The response of READ_PATTERN (R138, 10.6). -/
def patternReport (n : EntryNo) (s : State) : List Byte :=
  let e := s.pattern n
  [flagByte e.valid, flagByte e.lock, e.content.kind.code, byteOf e.content.blockSize,
    byteOf e.content.barCount] ++ two e.content.barWidth ++ e.content.colours.toList ++ [byteOf n.val]

/-- READ_PATTERN (R138). -/
def execReadPattern (p : Port) (entry : Byte) (s : State) : Result :=
  onLink p s <|
    match argBelow 8 entry with
    | none => .refuse .badArg
    | some n => .ok s (patternReport n s)

end Sys2Proof.Machine
end

