-- ==== Sys2Proof/Machine/Pins.lean ====
section
/-! DEFINITION. Pins, read-back and the page query (file 08): PIN_PAGE, PIN_NEWEST, UNPIN, READ_LINE,
READ_META, QUERY_PAGE. -/

namespace Sys2Proof.Machine

/-- The page's sequence, 0 when it has none (only a READY page has one, R2; log entry 14). -/
def pageSequence (s : State) (g : PageNo) : Word32 := (s.page g).sequence.getD 0

/-- The pin slot presents a hold on page `g`: refused when the page is not READY (R146 test 3, R147). -/
def pinPage (p : Port) (g : PageNo) (s : State) : CommandResult :=
  if (s.page g).state = .ready then
    .ok ((takeHold (.pin p) g s).setPin p (some g)) (byteOf g.val :: be32 (pageSequence s g))
  else .refuse .badState

/-- PIN_PAGE (R146). -/
def execPinPage (p : Port) (page : Byte) (s : State) : Result :=
  onLink p s <|
    match argBelow 16 page with
    | none => .refuse .badArg
    | some g => if (s.pin p).isSome then .refuse .badState else pinPage p g s

/-- PIN_NEWEST (R147). -/
def execPinNewest (p : Port) (stream : Byte) (s : State) : Result :=
  onLink p s <|
    match argBelow 8 stream with
    | none => .refuse .badArg
    | some st =>
      if (s.pin p).isSome then .refuse .badState
      else if (s.stream st).state = .closed then .refuse .badState
      else match (s.stream st).ready.getLast? with
        | none => .refuse .badState
        | some e => pinPage p e.page s

/-- UNPIN (R148). -/
def execUnpin (p : Port) (s : State) : Result :=
  onLink p s <| .ok (dropPin p s) (optionalNumber (s.pin p))

/-- The page a selector selects (R150). -/
def selectedPage (p : Port) (s : State) : Selector → Option PageNo
  | .pin => s.pin p
  | .egress => (s.egress p).held

/-- The response of READ_LINE before its data (10.6). -/
def lineReport (s : State) (g : PageNo) (lineBytes count : Nat) : List Byte :=
  byteOf g.val :: (be32 (pageSequence s g) ++ two lineBytes ++ [byteOf (count - 1)])

/-- Tests 3 and 4 of R151 and the read. -/
def readLine (g : PageNo) (index offset count : Nat) (s : State) : CommandResult :=
  let r := s.page g
  let lineBytes := r.directory.getD index 0
  if r.lineCount ≤ index then .refuse .badArg
  else if lineBytes < offset + count then .refuse .badArg
  else match s.fetch (lineAddress s g index + offset) count with
    | .error f => .stop f
    | .ok data => .done s (Answer.line (lineReport s g lineBytes count) data)

/-- READ_LINE (R151, R174). -/
def execReadLine (p : Port) (selector : Byte) (index offset count : Word16) (s : State) : Result :=
  onLink p s <|
    match argSelector selector with
    | none => .refuse .badArg
    | some sel =>
      if between 0 index.toNat 4094 && between 0 offset.toNat 8191 && between 1 count.toNat 256 then
        match selectedPage p s sel with
        | none => .refuse .badState
        | some g => readLine g index.toNat offset.toNat count.toNat s
      else .refuse .badArg

/-- The response of READ_META (R152, 10.6). -/
def metadataReport (s : State) (g : PageNo) : List Byte :=
  let m := (s.page g).metadata
  byteOf g.val :: (be32 (pageSequence s g) ++ optional 1 (fun b : List Byte => [byteOf b.length]) m ++ m.getD [])

/-- READ_META (R152). -/
def execReadMeta (p : Port) (selector : Byte) (s : State) : Result :=
  onLink p s <|
    match argSelector selector with
    | none => .refuse .badArg
    | some sel =>
      match selectedPage p s sel with
      | none => .refuse .badState
      | some g => .ok s (metadataReport s g)

/-- The free list position of a FREE page, counted from 0 at the head (R21). -/
def freePosition (s : State) (g : PageNo) : Option Nat :=
  if (s.page g).state = .free then s.freeList.findIdx? fun q => decide (q = g) else none

/-- The response of QUERY_PAGE (R21, R153, 10.6). -/
def pageReport (g : PageNo) (s : State) : List Byte :=
  let r := s.page g
  [byteOf g.val, r.state.code] ++ optionalNumber r.stream ++ optional 2 Pair.bytes r.producer ++
    optionalWord r.sequence ++ [r.kind] ++ be16 r.frameNumber ++ be32 r.startTime ++ optionalWord r.endTime ++
    two r.lineCount ++ be32 (BitVec.ofNat 32 r.bytesUsed) ++ [r.damage.setWidth 8] ++
    optional 1 (fun b : List Byte => [byteOf b.length]) r.metadata ++
    [flagByte r.viewed, byteOf r.holdCount, r.holders] ++ optional 1 (fun n => [byteOf n]) (freePosition s g)

/-- QUERY_PAGE (R21, R153). -/
def execQueryPage (p : Port) (page : Byte) (s : State) : Result :=
  onLink p s <|
    match argBelow 16 page with
    | none => .refuse .badArg
    | some g => .ok s (pageReport g s)

end Sys2Proof.Machine
end

