-- ==== Sys2Proof/Machine/Dispatch.lean ====
section
/-! DEFINITION. One arm per command: each is a direct call of the command's meaning. -/

namespace Sys2Proof.Machine

def exec (i : Instr) (s : State) : Host.Outcome State Fault Refusal :=
  match i with
  | .readId port => Sys2Proof.Machine.execReadId port s
  | .readTime port => Sys2Proof.Machine.execReadTime port s
  | .resetPort port => Sys2Proof.Machine.execResetPort port s
  | .openStream port stream producer tag mode quota lines timeout => Sys2Proof.Machine.execOpenStream port stream producer tag mode quota lines timeout s
  | .setStream port stream quota lines timeout => Sys2Proof.Machine.execSetStream port stream quota lines timeout s
  | .closeStream port stream => Sys2Proof.Machine.execCloseStream port stream s
  | .lockStream port stream => Sys2Proof.Machine.execLockStream port stream s
  | .queryStream port stream => Sys2Proof.Machine.execQueryStream port stream s
  | .setTiming port linePeriod active backPorch frontPorch total lineBytes tag => Sys2Proof.Machine.execSetTiming port linePeriod active backPorch frontPorch total lineBytes tag s
  | .startEgress port => Sys2Proof.Machine.execStartEgress port s
  | .stopEgress port => Sys2Proof.Machine.execStopEgress port s
  | .setTracking port mode window => Sys2Proof.Machine.execSetTracking port mode window s
  | .trackNow port => Sys2Proof.Machine.execTrackNow port s
  | .subscribe port stream => Sys2Proof.Machine.execSubscribe port stream s
  | .follow port leader => Sys2Proof.Machine.execFollow port leader s
  | .detach port => Sys2Proof.Machine.execDetach port s
  | .freeze port => Sys2Proof.Machine.execFreeze port s
  | .thaw port => Sys2Proof.Machine.execThaw port s
  | .setFallback port action entry fill => Sys2Proof.Machine.execSetFallback port action entry fill s
  | .lockEgress port => Sys2Proof.Machine.execLockEgress port s
  | .queryEgress port target => Sys2Proof.Machine.execQueryEgress port target s
  | .pinPage port page => Sys2Proof.Machine.execPinPage port page s
  | .pinNewest port stream => Sys2Proof.Machine.execPinNewest port stream s
  | .unpin port => Sys2Proof.Machine.execUnpin port s
  | .readLine port selector index offset count => Sys2Proof.Machine.execReadLine port selector index offset count s
  | .readMeta port selector => Sys2Proof.Machine.execReadMeta port selector s
  | .queryPage port page => Sys2Proof.Machine.execQueryPage port page s
  | .queryIngress port target => Sys2Proof.Machine.execQueryIngress port target s
  | .writePattern port entry kind blockSize barCount barWidth colours => Sys2Proof.Machine.execWritePattern port entry kind blockSize barCount barWidth colours s
  | .lockPattern port entry => Sys2Proof.Machine.execLockPattern port entry s
  | .readPattern port entry => Sys2Proof.Machine.execReadPattern port entry s
  | .readNotices port => Sys2Proof.Machine.execReadNotices port s
  | .setMask port mask => Sys2Proof.Machine.execSetMask port mask s
  | .setWatch port stream compare => Sys2Proof.Machine.execSetWatch port stream compare s
  | .clearWatch port => Sys2Proof.Machine.execClearWatch port s
  | .badCommand port => Sys2Proof.Machine.execBadCommand port s
  | .transactionDiscarded port => Sys2Proof.Machine.execTransactionDiscarded port s
  | .frameStart port tag kind frameNumber => Sys2Proof.Machine.execFrameStart port tag kind frameNumber s
  | .line port tag number payload check => Sys2Proof.Machine.execLine port tag number payload check s
  | .sideband port tag payload check => Sys2Proof.Machine.execSideband port tag payload check s
  | .frameEnd port tag status claimed => Sys2Proof.Machine.execFrameEnd port tag status claimed s
  | .formatError port => Sys2Proof.Machine.execFormatError port s
  | .laneDown port => Sys2Proof.Machine.execLaneDown port s
  | .laneUp port => Sys2Proof.Machine.execLaneUp port s
  | .stallTimerExpiry stream => Sys2Proof.Machine.execStallTimerExpiry stream s
  | .flip port => Sys2Proof.Machine.execFlip port s
  | .egressLine port => Sys2Proof.Machine.execEgressLine port s
  | .powerOnReset => Sys2Proof.Machine.execPowerOnReset s
  | .partReset => Sys2Proof.Machine.execPartReset s
  | .resetEnd => Sys2Proof.Machine.execResetEnd s
  | .cfgholdChange asserted => Sys2Proof.Machine.execCfgholdChange asserted s
  | .timeBaseTick microseconds => Sys2Proof.Machine.execTimeBaseTick microseconds s

end Sys2Proof.Machine
end

