-- ==== Sys2Proof/Safety.lean ====
section
/-! DEFINITION. What stays true of the part from event to event: the relations the spec gives between its
pieces of state. Each is a decidable statement about one state; the obligations say which of them every
step keeps. -/

namespace Sys2Proof.Machine

/-! ### Notice units (R155, R156) -/

/-- The line is asserted exactly while a flag is both set and unmasked (R155). -/
abbrev LineAgrees (u : NoticeUnit) : Prop :=
  u.lineAsserted = true ↔ ∃ b : Fin 11, hasMember u.flags b = true ∧ hasMember u.mask b = true

/-- An OWN flag is set exactly while its stream set has a member (R156, R158). -/
abbrev OwnSetsAgree (u : NoticeUnit) : Prop :=
  (hasMember u.flags 0 = true ↔ u.stallSet ≠ 0#8) ∧ (hasMember u.flags 1 = true ↔ u.resumeSet ≠ 0#8) ∧
    (hasMember u.flags 2 = true ↔ u.skipSet ≠ 0#8) ∧ (hasMember u.flags 3 = true ↔ u.drainedSet ≠ 0#8)

/-- Every port's notice unit is in order. -/
abbrev NoticesAgree (s : State) : Prop := ∀ p : Port, LineAgrees (s.notice p) ∧ OwnSetsAgree (s.notice p)

/-! ### The page pool (R2, R4) -/

/-- Every page is in the free list exactly when it is FREE, and stands there once (R4). -/
abbrev FreeListExact (s : State) : Prop :=
  s.freeList.Nodup ∧ ∀ g : PageNo, g ∈ s.freeList ↔ (s.page g).state = .free

/-- The directory and what is counted from it (R2, R9). -/
abbrev Page.DirectoryAgrees (r : Page) : Prop :=
  r.lineCount = r.directory.length ∧ r.lineCount ≤ Config.maxLines ∧ r.bytesUsed = r.directory.sum ∧
    r.bytesUsed ≤ Config.slotBytes ∧ ∀ n ∈ r.directory, 1 ≤ n ∧ n ≤ Config.maxLineBytes

/-- The metadata, when present, has 1 to 64 bytes (R2, R10). -/
abbrev Page.MetadataFits (r : Page) : Prop :=
  ∀ m ∈ r.metadata, 1 ≤ m.length ∧ m.length ≤ Config.maxMetadata

/-- The fields a page state calls for (R2, column "present in"; R12). -/
abbrev Page.FieldsOfState (r : Page) : Prop :=
  (r.state = .free → r = Page.cleared) ∧
    (r.state ≠ .free → r.stream.isSome = true ∧ r.producer.isSome = true) ∧
    (r.state = .filling → r.sequence = none ∧ r.endTime = none ∧ r.viewed = false ∧ r.holders = 0#8) ∧
    (r.state = .ready → r.sequence.isSome = true ∧ r.endTime.isSome = true ∧ (r.holders ≠ 0#8 → r.viewed = true))

/-- A page record as R2 describes it, its hold count the number of its holders (R12). -/
abbrev Page.WellKept (r : Page) : Prop :=
  r.DirectoryAgrees ∧ r.MetadataFits ∧ r.FieldsOfState ∧ r.holdCount = countMembers r.holders ∧
    r.kind.toNat ≤ 63

/-- Every page record is well kept. -/
abbrev PagesWellKept (s : State) : Prop := ∀ g : PageNo, (s.page g).WellKept

/-- The holders of a page are the egresses that hold it and the pins on it (R2, R12). -/
abbrev HoldersExact (s : State) : Prop :=
  ∀ g : PageNo, ∀ p : Port,
    (hasMember (s.page g).holders (Holder.egress p).bit = true ↔ (s.egress p).held = some g) ∧
      (hasMember (s.page g).holders (Holder.pin p).bit = true ↔ s.pin p = some g)

/-! ### Sequence order and the release rules (00_scope.md, R86 to R89) -/

/-- Sequence `a` is later than sequence `b` (00_scope.md, "Sequence order"). -/
abbrev IsLater (a b : Word32) : Prop := 1 ≤ (a - b).toNat ∧ (a - b).toNat ≤ 2147483647

/-- The cursor of every subscriber of the stream is present and not earlier than `q` (R88). -/
abbrev PassedByEverySubscriber (s : State) (st : StreamNo) (q : Word32) : Prop :=
  ∀ j : Port, hasMember (s.stream st).subscribers j = true →
    ((s.egress j).cursor.any fun c => !decide (IsLater q c)) = true

/-- The release rule of the stream's state and mode calls for the listed page: in DRAINING every page (R89),
in LATEST every page but the newest (R87), in QUEUED with a subscriber the pages that every subscriber has
passed (R88); in CLOSED none (R86). Only an unheld page is freed. -/
abbrev RuleCallsFor (s : State) (st : StreamNo) (e : ReadyEntry) : Prop :=
  (s.stream st).state = .draining ∨
    ((s.stream st).state.isOpen = true ∧ (s.stream st).mode = .latest ∧ (s.stream st).ready.getLast? ≠ some e) ∨
    ((s.stream st).state.isOpen = true ∧ (s.stream st).mode = .queued ∧ (s.stream st).subscribers ≠ 0#4 ∧
      PassedByEverySubscriber s st e.sequence)

/-- An evaluation of the release rules frees the listed page: called for and unheld (R86 to R89). -/
abbrev EvaluationFrees (s : State) (st : StreamNo) (e : ReadyEntry) : Prop :=
  RuleCallsFor s st e ∧ (s.page e.page).holdCount = 0

/-! ### Streams (R22, R26, R27, R73) -/

/-- The committed quotas sum to at most 16 and each quota is 1 to 8 (R27). -/
abbrev CommitmentsFit (s : State) : Prop :=
  committedSum s ≤ Config.poolPages ∧ ∀ st : StreamNo, 1 ≤ (s.stream st).quota ∧ (s.stream st).quota ≤ 8

/-- Bound exactly while WAITING, LIVE or STALLED; a pair is bound to one stream at most; owned exactly
while not CLOSED; the timer runs only while bound (R25, R26, R40). -/
abbrev BindingsAgree (s : State) : Prop :=
  (∀ st : StreamNo, ((s.stream st).binding.isSome = true ↔ (s.stream st).state.isOpen = true) ∧
    ((s.stream st).owner.isSome = true ↔ (s.stream st).state ≠ .closed) ∧
    ((s.stream st).binding = none → (s.stream st).timer = .stopped)) ∧
  ∀ a b : StreamNo, (s.stream a).binding.isSome = true → (s.stream a).binding = (s.stream b).binding → a = b

/-- The ready list holds the stream's READY pages and no others, each once with its sequence; the filling
page is the stream's one FILLING page (R22, R73). -/
abbrev StreamPagesExact (s : State) (st : StreamNo) : Prop :=
  ((s.stream st).ready.map ReadyEntry.page).Nodup ∧
    (∀ e ∈ (s.stream st).ready, (s.page e.page).state = .ready ∧ (s.page e.page).stream = some st ∧
      (s.page e.page).sequence = some e.sequence) ∧
    (∀ g : PageNo, (s.page g).state = .ready → (s.page g).stream = some st →
      g ∈ (s.stream st).ready.map ReadyEntry.page) ∧
    ∀ g : PageNo, (s.stream st).filling = some g ↔
      (s.page g).state = .filling ∧ (s.page g).stream = some st

/-- The page count stays within the quota; a CLOSED stream has no page; a DRAINING one has some, all READY
and held (R24, R27, R36). -/
abbrev StreamCountFits (s : State) (st : StreamNo) : Prop :=
  pageCount s st ≤ (s.stream st).quota ∧
    ((s.stream st).state = .closed → pageCount s st = 0) ∧
    ((s.stream st).state = .draining → 0 < pageCount s st ∧ (s.stream st).filling = none ∧
      ∀ e ∈ (s.stream st).ready, 0 < (s.page e.page).holdCount)

/-- A CAPTURING context's page is the FILLING page with the context's producer, of the stream bound to the
pair; and every FILLING page has such a context (R3, R53). -/
abbrev ContextsExact (s : State) : Prop :=
  ∀ p : Port, ∀ t : Tag, ∀ g : PageNo,
    (s.context p t = .capturing g ↔ (s.page g).state = .filling ∧ (s.page g).producer = some ⟨p, t⟩) ∧
      (s.context p t = .capturing g →
        ∃ st : StreamNo, (s.page g).stream = some st ∧ (s.stream st).binding = some ⟨p, t⟩)

/-! ### Egresses (R95, R96, R113, R114, R124) -/

/-- The ranges of R96. -/
abbrev TimingSet.InRange (t : TimingSet) : Prop :=
  100 ≤ t.linePeriod ∧ t.linePeriod ≤ 65535 ∧ 1 ≤ t.active ∧ t.backPorch ≤ 255 ∧ t.frontPorch ≤ 255 ∧
    t.active + t.backPorch + t.frontPorch ≤ t.total ∧ t.total ≤ Config.maxTotalLines ∧ 1 ≤ t.lineBytes ∧
    t.lineBytes ≤ Config.maxLineBytes

/-- A frame of `n` lines leaves room for the porches and the active lines (R99, R108). -/
abbrev TimingSet.Allows (t : TimingSet) (n : Nat) : Prop :=
  t.active + t.backPorch + t.frontPorch ≤ n ∧ n ≤ Config.maxTotalLines

/-- An egress's timing in range, its totals allowed by it, and a pending timing only while RUNNING (R95 to
R99, R108). -/
abbrev Egress.TimingWellKept (e : Egress) : Prop :=
  e.timing.InRange ∧ (∀ t ∈ e.pendingTiming, t.InRange ∧ e.run = .running) ∧ e.timing.Allows e.totalLines ∧
    (∀ n ∈ e.manualTotal, e.timing.Allows n) ∧ (∀ n ∈ e.linePosition, n < e.totalLines) ∧ e.window ≤ 255

/-- A STOPPED egress shows nothing, holds nothing and waits for nothing; a RUNNING one has a line position
(R95, R102, R114). -/
abbrev Egress.RunWellKept (e : Egress) : Prop :=
  (e.run = .running ↔ e.linePosition.isSome = true) ∧
    (e.run = .stopped → e.showing = .blank ∧ e.held = none ∧ e.stopPending = false ∧ e.lane = [])

/-- Held page exactly with PAGE, pattern copy exactly with PATTERN (R114). -/
abbrev Egress.ShowingWellKept (e : Egress) : Prop :=
  (e.held.isSome = true ↔ e.showing = .page) ∧
    (e.patternCopy.isSome = true ↔ ∃ n : EntryNo, e.showing = .pattern n)

/-- The last line of the frame in progress has passed, which is when the next flip is taken (R99). -/
abbrev Egress.FrameOver (e : Egress) : Prop :=
  ∀ n ∈ e.linePosition, e.lineSent = true ∧ e.totalLines ≤ n + 1

/-- An egress unit as R95, R96, R110 and R114 describe it. -/
abbrev Egress.WellKept (e : Egress) : Prop :=
  e.TimingWellKept ∧ e.RunWellKept ∧ e.ShowingWellKept ∧
    (e.trackRequest = true → e.tracking = .manual)

/-- Every egress unit is well kept. -/
abbrev EgressesWellKept (s : State) : Prop := ∀ p : Port, (s.egress p).WellKept

/-- A follower follows another port, and no leader follows (R113, R124). -/
abbrev NoFollowerChain (s : State) : Prop :=
  ∀ p k : Port, (s.egress p).source = .follow k → k ≠ p ∧ (s.egress k).source.isFollow = false

/-- A port is among a stream's subscribers exactly when its egress's source is that stream, which is then
WAITING, LIVE or STALLED; a cursor is present only with such a source (R45, R114). -/
abbrev SubscriptionsExact (s : State) : Prop :=
  ∀ p : Port,
    (∀ st : StreamNo, (hasMember (s.stream st).subscribers p = true ↔ (s.egress p).source = .stream st) ∧
      ((s.egress p).source = .stream st → (s.stream st).state.isOpen = true)) ∧
    ((s.egress p).cursor.isSome = true → ∃ st : StreamNo, (s.egress p).source = .stream st)

/-! ### The pattern library (R134, R137, R139) -/

/-- The ranges of R134. -/
abbrev PatternContent.InRange (c : PatternContent) : Prop :=
  1 ≤ c.blockSize ∧ c.blockSize ≤ 16 ∧ c.barCount ∈ [1, 2, 4, 8] ∧ 1 ≤ c.barWidth ∧ c.barWidth ≤ 8192

/-- Entries and pattern copies hold content in range, a locked entry is valid, and an entry that is not valid
has the cleared content (R134, R137 to R139). -/
abbrev PatternsInRange (s : State) : Prop :=
  (∀ e : EntryNo, (s.pattern e).content.InRange ∧ ((s.pattern e).lock = true → (s.pattern e).valid = true) ∧
    ((s.pattern e).valid = false → (s.pattern e).content = PatternEntry.cleared.content)) ∧
    ∀ p : Port, ∀ c ∈ (s.egress p).patternCopy, c.InRange

/-! ### All of the shared state together -/

/-- The page pool, the streams, the contexts and the holders agree with one another. -/
structure Coherent (s : State) : Prop where
  freeList : FreeListExact s
  pages : PagesWellKept s
  holders : HoldersExact s
  commitments : CommitmentsFit s
  bindings : BindingsAgree s
  streamPages : ∀ st : StreamNo, StreamPagesExact s st
  streamCounts : ∀ st : StreamNo, StreamCountFits s st
  contexts : ContextsExact s
  egresses : EgressesWellKept s
  followers : NoFollowerChain s
  subscriptions : SubscriptionsExact s

/-! ### The egress lanes (R172) -/

/-- The payload check a packet carries, when it carries one, holds (R172). -/
abbrev LanePacket.checkHolds (k : LanePacket) : Prop :=
  match k with
  | .frameStart _ _ _ => True
  | .line _ _ payload check => check = payloadCheck payload
  | .sideband _ payload check => check = payloadCheck payload
  | .frameEnd _ _ _ => True

/-- Every packet on an egress lane has its fields in range and its payload check right (R172). -/
abbrev LanePacketsGood (s : State) : Prop :=
  ∀ p : Port, ∀ k ∈ (s.egress p).lane, k.inRange = true ∧ LanePacket.checkHolds k

/-! ### What a command leaves on its link (R166, R167) -/

/-- The state with the answer OK and a response on the link of port `p`. -/
def State.acked (s : State) (p : Port) (response : List Byte) : State :=
  s.setLink p (some ⟨.ok, BitVec.ofNat 8 response.length, response⟩)

/-- The state with a refusal on the link of port `p`: a status and a response length of 0. -/
def State.refusedWith (s : State) (p : Port) (status : Status) : State := s.setLink p (some ⟨status, 0#8, []⟩)

/-! ### Which port an event belongs to (Agents) -/

/-- The port whose ingress lane the event is of (file 03). -/
def lanePort : Instr → Option Port
  | .frameStart p _ _ _ => some p
  | .line p _ _ _ _ => some p
  | .sideband p _ _ _ => some p
  | .frameEnd p _ _ _ => some p
  | .formatError p => some p
  | .laneDown p => some p
  | .laneUp p => some p
  | _ => none

/-- The port whose egress the event acts on by itself (files 05 and 06, R170). -/
def egressPort : Instr → Option Port
  | .setTiming p _ _ _ _ _ _ _ => some p
  | .startEgress p => some p
  | .stopEgress p => some p
  | .setTracking p _ _ => some p
  | .trackNow p => some p
  | .subscribe p _ => some p
  | .follow p _ => some p
  | .detach p => some p
  | .freeze p => some p
  | .thaw p => some p
  | .setFallback p _ _ _ => some p
  | .lockEgress p => some p
  | .flip p => some p
  | .egressLine p => some p
  | .resetPort p => some p
  | _ => none

/-- The port whose control link the event is on (R166, R167). -/
def linkPort : Instr → Option Port
  | .badCommand p => some p
  | .transactionDiscarded p => some p
  | c => (encodeCommand c).map fun sent => sent.1

/-- A reset of the whole part begins (R171). -/
def isReset (c : Instr) : Prop := c = .powerOnReset ∨ c = .partReset

end Sys2Proof.Machine
end

