-- ==== Sys2Proof/Certificates/Slice0/Obligations.lean ====
section
/-! DEFINITION. The statements for the provers, in the order of OBLIGATIONS.json: the machine and its wire,
then the families of commands, then what every step keeps. -/

section

open Sys2Proof Sys2Proof.Machine

/-! ### The machine -/

/-- A step takes the command at the front of the queue and runs its meaning on the rest; on an empty queue
the part idles (both the model's choice, log entry 1). -/
def Obligations.StepTakesTheFrontCommand : Prop :=
  (∀ (c : Instr) (s : State) (rest : List Instr),
    step { s with pending := c :: rest } = exec c { s with pending := rest }) ∧
  ∀ s : State, s.pending = [] → step s = .next s

/-- Only READ_LINE and EGRESS_LINE can stop, with the fault of log entry 17, and not where every page record
is well kept: there every event has a next state. -/
def Obligations.OnlyFrameStoreReadsCanStop : Prop :=
  (∀ (c : Instr) (s : State), (∃ t, exec c s = .next t) ∨
    ((∃ a, exec c s = .fault (.outsideFrameStore a)) ∧
      ((∃ p b i o n, c = .readLine p b i o n) ∨ ∃ p, c = .egressLine p))) ∧
  ∀ (c : Instr) (s : State), PagesWellKept s → ∃ t, exec c s = .next t

/-- R171: while a reset lasts no command, packet, lane event, flip, expiry or tick is taken. -/
def Obligations.EventsInResetChangeNothing : Prop :=
  ∀ (c : Instr) (s : State), s.inReset.isSome = true → ¬ isReset c → c ≠ .resetEnd →
    (∀ b, c ≠ .cfgholdChange b) → exec c s = .next s

/-- R171 with R5, R23, R49, R53, R69, R95, R113, R135, R145, R155: what the two resets leave; their values
stand from their beginning (log entry 3), CFGHOLD keeps its level (log entry 4), and a part reset keeps the
bytes of the frame store (log entry 5). -/
def Obligations.ResetsLeaveTheResetValues : Prop :=
  ∀ (c : Instr) (s : State), isReset c → ∃ t, exec c s = .next t ∧
    t.inReset = (if c = .powerOnReset ∨ s.inReset = some .powerOn then some .powerOn else some .part) ∧
    t.timeBase = 0 ∧ t.cfgHold = s.cfgHold ∧ t.pending = s.pending ∧
    t.freeList = [0, 1, 2, 3, 4, 5, 6, 7, 8, 9, 10, 11, 12, 13, 14, 15] ∧
    (∀ g : PageNo, t.page g = ⟨.free, none, none, none, 0, 0, 0, none, 0, [], 0, 0, none, false, 0, 0⟩) ∧
    (∀ st : StreamNo, t.stream st =
      ⟨.closed, none, none, .latest, 1, 0, 0, .stopped, false, 1, none, [], none, none, none, 0, 0, 0, 0, 0, 0⟩) ∧
    (∀ p : Port, t.capture p = ⟨false, #v[.idle, .idle, .idle, .idle], 0, 0, 0, 0, 0⟩) ∧
    (∀ p : Port, t.egress p =
      ⟨.stopped, false, ⟨2222, 720, 20, 5, 750, 3840, 0⟩, none, 750, none, false, .off, 0, false, none, .none,
        none, none, .blank, none, false, .hold, 0, #v[0, 0, 0, 0], #v[0, 0, 0, 0], false, 0, 0, 0, 0, 0, []⟩) ∧
    (∀ p : Port, t.pin p = none ∧ t.notice p = ⟨0, 0, 0, 0, 0, 0, none, false⟩ ∧ t.link p = none) ∧
    (c = .powerOnReset → t.frameStore = [] ∧ ∀ e : EntryNo,
      t.pattern e = ⟨false, false, ⟨.fixed, 1, 1, 1, Vector.replicate 16 0⟩⟩) ∧
    (c = .partReset → t.frameStore = s.frameStore ∧ ∀ e : EntryNo, t.pattern e = s.pattern e)

/-- R168, R171, R69, R40: the level of CFGHOLD, the end of a reset and the passing of microseconds change
nothing else; a running stall timer loses the microseconds (log entries 9 and 10). That RESET_END changes the
reset in progress alone is log entry 3, that CFGHOLD_CHANGE acts during a reset too is log entry 4. -/
def Obligations.HoldResetEndAndTime : Prop :=
  ∀ (s : State) (b : Bool) (n : Nat),
    exec (.cfgholdChange b) s = .next { s with cfgHold := b } ∧
    exec .resetEnd s = .next { s with inReset := none } ∧
    (s.inReset = none → ∃ streams, exec (.timeBaseTick n) s =
        .next { s with timeBase := s.timeBase + BitVec.ofNat 32 n, streams := streams } ∧
      ∀ st : StreamNo, Table.get streams st =
        { s.stream st with
          timer := match (s.stream st).timer with
            | .stopped => .stopped
            | .running left => .running (left - n) })

/-! ### The wire -/

/-- R166, R173: the bytes a master sends for a command are decoded to that command, whatever bytes follow. -/
def Obligations.SentCommandsAreDecodedBack : Prop :=
  ∀ (c : Instr) (p : Port) (code : Byte) (args extra : List Byte),
    encodeCommand c = some (p, code, args) → decodeTransaction p (transactionBytes code args ++ extra) = c

/-- R172: a packet with its fields in range, built as the egress builds it, is read back as itself. -/
def Obligations.LanePacketsParseBack : Prop :=
  ∀ k : LanePacket, k.inRange = true → LanePacket.parse k.bytes = some k

/-- R167: a taken command is BAD_COMMAND exactly when its code and argument length are not a row of the
table; a transaction that ends before its last argument byte is discarded. -/
def Obligations.TransactionsOutsideTheTable : Prop :=
  ∀ (p : Port) (code length : Byte) (args : List Byte),
    (args.length = length.toNat →
      (decodeTransaction p (code :: length :: args) = .badCommand p ↔
        inCommandTable code args.length = false)) ∧
    (args.length < length.toNat → decodeTransaction p (code :: length :: args) = .transactionDiscarded p) ∧
    decodeTransaction p [code] = .transactionDiscarded p ∧ decodeTransaction p [] = .transactionDiscarded p

/-- Words written out from 10.5 and 10.6: transactions and lane packets, one of each family. -/
def Obligations.WireBytesSpellTheirCommands : Prop :=
  decodeTransaction 2 [0x03, 0] = .resetPort 2 ∧
  decodeTransaction 1 [0x10, 9, 3, 2, 1, 0, 5, 0x02, 0xD0, 0x00, 0x64] = .openStream 1 3 2 1 0 5 720 100 ∧
  decodeTransaction 3 [0x20, 11, 0x08, 0xAE, 0x02, 0xD0, 20, 5, 0x02, 0xEE, 0x0F, 0x00, 2] =
    .setTiming 3 2222 720 20 5 750 3840 2 ∧
  decodeTransaction 0 [0x2A, 6, 1, 2, 0x11, 0x22, 0x33, 0x44] = .setFallback 0 1 2 #v[0x11, 0x22, 0x33, 0x44] ∧
  decodeTransaction 0 [0x33, 7, 1, 0x00, 0x05, 0x00, 0x10, 0x01, 0x00] = .readLine 0 1 5 16 256 ∧
  decodeTransaction 1 [0x52, 5, 3, 0x00, 0x00, 0x00, 0x02] = .setWatch 1 3 2 ∧
  decodeLanePacket 2 [0x12, 5, 0x00, 0x64, 0x85] = .frameStart 2 2 5 100 ∧
  decodeLanePacket 2 [0x12, 5, 0x00, 0x64, 0x86] = .formatError 2 ∧
  decodeLanePacket 1 [0x20, 0x00, 0x01, 0x00, 0x02, 0xDD, 0x0A, 0x0B, 0x00, 0x15] = .line 1 0 1 [0x0A, 0x0B] 0x0015 ∧
  decodeLanePacket 1 [0x43, 0x01, 0x00, 0x04, 0xB8] = .frameEnd 1 3 1 4

/-! ### The control links -/

/-- R169. -/
def Obligations.IdentityAndTimeAreReported : Prop :=
  ∀ (p : Port) (s : State), s.inReset = none →
    exec (.readId p) s = .next (s.setLink p (some ⟨.ok, 9, [0x0A, 0x31, 0x04, 0x16, 0x01, BitVec.ofNat 8 p.val,
      4, 16, 8]⟩)) ∧
    exec (.readTime p) s = .next (s.setLink p (some ⟨.ok, 4, [s.timeBase.extractLsb' 24 8,
      s.timeBase.extractLsb' 16 8, s.timeBase.extractLsb' 8 8, s.timeBase.extractLsb' 0 8]⟩))

/-- R167: a command that returns a status other than OK changes no state and has no response, BAD_COMMAND
among them; a discarded transaction returns nothing (log entry 6) and changes nothing else. -/
def Obligations.RefusedCommandsChangeNothing : Prop :=
  (∀ (c : Instr) (p : Port) (s t : State) (a : Answer), s.inReset = none → c ≠ .transactionDiscarded p →
    linkPort c = some p → exec c s = .next t → t.link p = some a → a.status ≠ .ok →
    t = s.setLink p (some ⟨a.status, 0, []⟩)) ∧
  ∀ (p : Port) (s : State), s.inReset = none →
    exec (.badCommand p) s = .next (s.setLink p (some ⟨.badCommand, 0, []⟩)) ∧
    exec (.transactionDiscarded p) s = .next (s.setLink p none)

/-- R150, R153, R154, R169, R138: reading and querying change nothing but the link they are taken on. -/
def Obligations.ReadingCommandsChangeOnlyTheirLink : Prop :=
  ∀ (c : Instr) (s t : State) (p : Port), s.inReset = none →
    (c = .readId p ∨ c = .readTime p ∨ (∃ b, c = .queryStream p b) ∨ (∃ b, c = .queryEgress p b) ∨
      (∃ b, c = .queryPage p b) ∨ (∃ b, c = .queryIngress p b) ∨ (∃ b, c = .readMeta p b) ∨
      (∃ b, c = .readPattern p b) ∨ ∃ b i o n, c = .readLine p b i o n) →
    exec c s = .next t → ∃ a, t = s.setLink p (some a)

/-- Which events can change which piece of state. The pages, the free list, the streams and the notices, which
many events share, are not named here. -/
def Obligations.RecordsChangeOnlyAtTheirOwnEvents : Prop :=
  ∀ (c : Instr) (s t : State), exec c s = .next t →
    t.pending = s.pending ∧
    (t.inReset ≠ s.inReset → isReset c ∨ c = .resetEnd) ∧
    (t.cfgHold ≠ s.cfgHold → ∃ b, c = .cfgholdChange b) ∧
    (t.timeBase ≠ s.timeBase → isReset c ∨ ∃ n, c = .timeBaseTick n) ∧
    (∀ e : EntryNo, t.pattern e ≠ s.pattern e → c = .powerOnReset ∨
      (∃ p b k bs bc w col, c = .writePattern p b k bs bc w col ∧ b.toNat = e.val) ∨
      ∃ p b, c = .lockPattern p b ∧ b.toNat = e.val) ∧
    (∀ p : Port, t.pin p ≠ s.pin p → isReset c ∨ (∃ b, c = .pinPage p b) ∨ (∃ b, c = .pinNewest p b) ∨
      c = .unpin p ∨ c = .resetPort p) ∧
    (∀ p : Port, t.capture p ≠ s.capture p → isReset c ∨ lanePort c = some p ∨ c = .resetPort p ∨
      ∃ q b, c = .closeStream q b) ∧
    (∀ p : Port, t.egress p ≠ s.egress p → isReset c ∨ egressPort c = some p ∨ ∃ q b, c = .closeStream q b) ∧
    ∀ p : Port, t.link p ≠ s.link p → isReset c ∨ linkPort c = some p

/-- R1, R9: a byte of the frame store changes only where a LINE is stored, to the byte the LINE carries there;
and at a power-on reset (log entry 5). -/
def Obligations.FrameStoreWrittenOnlyByLines : Prop :=
  ∀ (c : Instr) (s t : State) (a : Nat), Memory.wf s.frameStore → exec c s = .next t → c ≠ .powerOnReset →
    t.frameStore.read a ≠ s.frameStore.read a →
    ∃ p tg n payload check g, c = .line p tg n payload check ∧ s.context p tg = .capturing g ∧
      g.val * 8388608 + (s.page g).bytesUsed ≤ a ∧
      a < g.val * 8388608 + (s.page g).bytesUsed + payload.length ∧
      t.frameStore.read a = payload.getD (a - (g.val * 8388608 + (s.page g).bytesUsed)) 0

/-- R170 with R68, R131, R145, R164: what a port reset leaves at its port, and what it keeps elsewhere. -/
def Obligations.ResetPortResetsItsPort : Prop :=
  ∀ (p : Port) (s : State), s.inReset = none → ∃ t, exec (.resetPort p) s = .next t ∧
    t.link p = some ⟨.ok, 0, []⟩ ∧ t.pin p = none ∧ t.notice p = ⟨0, 0, 0, 0, 0, 0, none, false⟩ ∧
    t.capture p = ⟨(s.capture p).laneUp, (t.capture p).contexts, 0, 0, 0, 0, 0⟩ ∧
    (∀ (tg : Tag) (g : PageNo), s.context p tg = .capturing g →
      t.context p tg = .discarding ∧ ((s.page g).state = .filling → (t.page g).state = .free)) ∧
    (∀ tg : Tag, s.context p tg = .idle ∨ s.context p tg = .discarding → t.context p tg = .idle) ∧
    ((s.egress p).lock = true → t.egress p = s.egress p) ∧
    ((s.egress p).lock = false → t.egress p = Egress.initial) ∧
    ((s.egress p).lock = false → (s.egress p).run = .running → ∀ j : Port, j ≠ p →
      (s.egress j).source = .follow p → hasMember (t.notice j).flags 7 = true) ∧
    (∀ q : Port, q ≠ p → t.egress q = s.egress q ∧ t.capture q = s.capture q ∧ t.pin q = s.pin q ∧
      t.link q = s.link q) ∧
    (∀ st : StreamNo, (t.stream st).binding = (s.stream st).binding ∧ (t.stream st).mode = (s.stream st).mode ∧
      (t.stream st).quota = (s.stream st).quota ∧ (t.stream st).lock = (s.stream st).lock ∧
      (t.stream st).nextSequence = (s.stream st).nextSequence ∧
      (t.stream st).lastSequence = (s.stream st).lastSequence) ∧
    t.patterns = s.patterns ∧ t.frameStore = s.frameStore ∧ t.timeBase = s.timeBase ∧ t.cfgHold = s.cfgHold

/-! ### Streams -/

/-- R29: the record an OPEN_STREAM that passes the tests of R28 sets. -/
def Obligations.OpenStreamSetsTheRecord : Prop :=
  ∀ (p : Port) (stream producer tag quota : Byte) (lines timeout : Word16) (mode : Mode) (s : State)
    (st : StreamNo) (pr : Pair),
    stream.toNat = st.val → producer.toNat = pr.port.val → tag.toNat = pr.tag.val →
    1 ≤ quota.toNat → quota.toNat ≤ 8 → lines.toNat ≤ 4095 → timeout.toNat ≤ 4095 →
    s.inReset = none → s.cfgHold = false → (s.stream st).state = .closed →
    (∀ n : StreamNo, (s.stream n).binding ≠ some pr) → committedSum s + quota.toNat ≤ 16 →
    exec (.openStream p stream producer tag mode.code quota lines timeout) s =
      .next ((s.setStream st
        { state := .waiting, owner := some p, binding := some pr, mode := mode, quota := quota.toNat,
          expectedLines := lines.toNat, stallTimeout := timeout.toNat,
          timer := if timeout.toNat = 0 then .stopped else .running (1000 * timeout.toNat),
          lock := false, nextSequence := 1, lastSequence := none, ready := [], filling := none,
          lastStart := none, lastInterval := none, subscribers := 0, published := 0, skipped := 0,
          aborted := 0, reclaimed := 0, damaged := 0 }).acked p [])

/-- R28: the refusals of OPEN_STREAM, in order. -/
def Obligations.OpenStreamRefusesInOrder : Prop :=
  ∀ (p : Port) (stream producer tag mode quota : Byte) (lines timeout : Word16) (s : State),
    s.inReset = none →
    ((8 ≤ stream.toNat ∨ 4 ≤ producer.toNat ∨ 4 ≤ tag.toNat ∨ 2 ≤ mode.toNat ∨ quota.toNat = 0 ∨
        8 < quota.toNat ∨ 4095 < lines.toNat ∨ 4095 < timeout.toNat) →
      exec (.openStream p stream producer tag mode quota lines timeout) s = .next (s.refusedWith p .badArg)) ∧
    ∀ (st : StreamNo) (pr : Pair), stream.toNat = st.val → producer.toNat = pr.port.val →
      tag.toNat = pr.tag.val → mode.toNat < 2 → 1 ≤ quota.toNat → quota.toNat ≤ 8 → lines.toNat ≤ 4095 →
      timeout.toNat ≤ 4095 →
      (s.cfgHold = true →
        exec (.openStream p stream producer tag mode quota lines timeout) s = .next (s.refusedWith p .denied)) ∧
      (s.cfgHold = false → (s.stream st).state ≠ .closed →
        exec (.openStream p stream producer tag mode quota lines timeout) s = .next (s.refusedWith p .badState)) ∧
      (s.cfgHold = false → (s.stream st).state = .closed → (∃ n : StreamNo, (s.stream n).binding = some pr) →
        exec (.openStream p stream producer tag mode quota lines timeout) s = .next (s.refusedWith p .badState)) ∧
      (s.cfgHold = false → (s.stream st).state = .closed →
        (∀ n : StreamNo, (s.stream n).binding ≠ some pr) → 16 < committedSum s + quota.toNat →
        exec (.openStream p stream producer tag mode quota lines timeout) s = .next (s.refusedWith p .noRoom))

/-- R30: the refusals SET_STREAM, CLOSE_STREAM and LOCK_STREAM share, in order. -/
def Obligations.OwnerCommandsRefuseInOrder : Prop :=
  ∀ (p : Port) (stream quota : Byte) (lines timeout : Word16) (s : State) (c : Instr), s.inReset = none →
    (c = .setStream p stream quota lines timeout ∨ c = .closeStream p stream ∨ c = .lockStream p stream) →
    (8 ≤ stream.toNat → exec c s = .next (s.refusedWith p .badArg)) ∧
    (c = .setStream p stream quota lines timeout →
      (quota.toNat = 0 ∨ 8 < quota.toNat ∨ 4095 < lines.toNat ∨ 4095 < timeout.toNat) →
      exec c s = .next (s.refusedWith p .badArg)) ∧
    ∀ st : StreamNo, stream.toNat = st.val → 1 ≤ quota.toNat → quota.toNat ≤ 8 → lines.toNat ≤ 4095 →
      timeout.toNat ≤ 4095 →
      (s.cfgHold = true → exec c s = .next (s.refusedWith p .denied)) ∧
      (s.cfgHold = false → (s.stream st).state = .closed ∨ (s.stream st).state = .draining →
        exec c s = .next (s.refusedWith p .badState)) ∧
      (s.cfgHold = false → (s.stream st).state.isOpen = true → (s.stream st).owner ≠ some p →
        exec c s = .next (s.refusedWith p .denied)) ∧
      (s.cfgHold = false → (s.stream st).state.isOpen = true → (s.stream st).owner = some p →
        (s.stream st).lock = true → c ≠ .lockStream p stream → exec c s = .next (s.refusedWith p .denied))

/-- R31, R32: what SET_STREAM tests and writes; R38: what LOCK_STREAM writes. -/
def Obligations.SetStreamAndLockStreamWriteTheirFields : Prop :=
  ∀ (p : Port) (stream quota : Byte) (lines timeout : Word16) (s : State) (st : StreamNo),
    stream.toNat = st.val → s.inReset = none → s.cfgHold = false → (s.stream st).state.isOpen = true →
    (s.stream st).owner = some p →
    exec (.lockStream p stream) s = .next ((s.setStream st { s.stream st with lock := true }).acked p []) ∧
    ((s.stream st).lock = false → 1 ≤ quota.toNat → quota.toNat ≤ 8 → lines.toNat ≤ 4095 → timeout.toNat ≤ 4095 →
      (quota.toNat < pageCount s st →
        exec (.setStream p stream quota lines timeout) s = .next (s.refusedWith p .badState)) ∧
      (pageCount s st ≤ quota.toNat → (s.stream st).quota < quota.toNat →
        16 < committedSum s - (s.stream st).quota + quota.toNat →
        exec (.setStream p stream quota lines timeout) s = .next (s.refusedWith p .noRoom)) ∧
      (pageCount s st ≤ quota.toNat →
        (quota.toNat ≤ (s.stream st).quota ∨ committedSum s - (s.stream st).quota + quota.toNat ≤ 16) →
        exec (.setStream p stream quota lines timeout) s =
          .next ((s.setStream st
            { s.stream st with
              quota := quota.toNat, expectedLines := lines.toNat, stallTimeout := timeout.toNat,
              timer := if timeout.toNat = (s.stream st).stallTimeout then (s.stream st).timer
                else if timeout.toNat = 0 then .stopped else .running (1000 * timeout.toNat) }).acked p [])))

/-- R33 to R35, R132, R16: what a CLOSE_STREAM does, in a coherent state. -/
def Obligations.CloseStreamUnbindsAndFrees : Prop :=
  ∀ (p : Port) (stream : Byte) (s : State) (st : StreamNo), Coherent s → stream.toNat = st.val →
    s.inReset = none → s.cfgHold = false → (s.stream st).state.isOpen = true →
    (s.stream st).owner = some p → (s.stream st).lock = false →
    ∃ t, exec (.closeStream p stream) s = .next t ∧ t.link p = some ⟨.ok, 0, []⟩ ∧
      t.stream st =
        { s.stream st with
          state := if (s.stream st).ready.all fun e => decide ((s.page e.page).holdCount = 0) then .closed
            else .draining
          owner := if (s.stream st).ready.all fun e => decide ((s.page e.page).holdCount = 0) then none
            else some p
          binding := none, timer := .stopped, filling := none, subscribers := 0
          ready := (s.stream st).ready.filter fun e => decide ((s.page e.page).holdCount ≠ 0)
          aborted := if (s.stream st).filling.isSome then (s.stream st).aborted + 1 else (s.stream st).aborted
          reclaimed := (s.stream st).reclaimed + BitVec.ofNat 32 ((s.stream st).ready.countP fun e =>
            decide ((s.page e.page).holdCount = 0) && !(s.page e.page).viewed) } ∧
      (∀ n : StreamNo, n ≠ st → t.stream n = s.stream n) ∧
      (∀ g : PageNo, t.page g =
        if (s.page g).stream = some st ∧ (s.page g).holdCount = 0 then Page.cleared else s.page g) ∧
      t.freeList = s.freeList ++ (s.stream st).filling.toList ++
        (((s.stream st).ready.filter fun e => decide ((s.page e.page).holdCount = 0)).map ReadyEntry.page) ∧
      (∀ j : Port, t.egress j =
        if hasMember (s.stream st).subscribers j then { s.egress j with source := .none, cursor := none }
        else s.egress j) ∧
      (∀ (q : Port) (tg : Tag), t.context q tg =
        if (s.stream st).filling.isSome ∧ (s.stream st).binding = some ⟨q, tg⟩ then .discarding
        else s.context q tg) ∧
      (∀ j : Port, hasMember (s.stream st).subscribers j = true → hasMember (t.notice j).flags 7 = true) ∧
      ((s.stream st).filling.isSome = true →
        hasMember (t.notice p).flags 2 = true ∧ hasMember (t.notice p).skipSet st = true) ∧
      ((t.stream st).state = .closed →
        hasMember (t.notice p).flags 3 = true ∧ hasMember (t.notice p).drainedSet st = true) ∧
      t.pins = s.pins ∧ t.patterns = s.patterns ∧ t.frameStore = s.frameStore ∧ t.timeBase = s.timeBase

/-- R41, R40: an expiry stalls a WAITING or LIVE stream and stops the timer; a timer that is stopped or has
time left has no expiry (log entry 9). -/
def Obligations.StallTimerExpiryStallsTheStream : Prop :=
  ∀ (st : StreamNo) (o : Port) (s : State), s.inReset = none → (s.stream st).owner = some o →
    ((s.stream st).timer = .running 0 → (s.stream st).state = .waiting ∨ (s.stream st).state = .live →
      exec (.stallTimerExpiry st) s =
        .next (raiseOwn .stall st (s.setStream st { s.stream st with state := .stalled, timer := .stopped }))) ∧
    ((s.stream st).timer = .running 0 → (s.stream st).state = .stalled →
      exec (.stallTimerExpiry st) s = .next (s.setStream st { s.stream st with timer := .stopped })) ∧
    ((s.stream st).timer ≠ .running 0 → exec (.stallTimerExpiry st) s = .next s)

/-- R153, R154, R71, R21 with the layouts of 10.6: the answers of the four queries have the lengths of the
command table, and the fields named stand at their places; a number out of range is answered BAD_ARG. -/
def Obligations.QueriesReportTheRecords : Prop :=
  ∀ (p : Port) (b : Byte) (s : State), s.inReset = none →
    (8 ≤ b.toNat → exec (.queryStream p b) s = .next (s.refusedWith p .badArg)) ∧
    (4 ≤ b.toNat → exec (.queryEgress p b) s = .next (s.refusedWith p .badArg) ∧
      exec (.queryIngress p b) s = .next (s.refusedWith p .badArg)) ∧
    (16 ≤ b.toNat → exec (.queryPage p b) s = .next (s.refusedWith p .badArg)) ∧
    (∀ st : StreamNo, b.toNat = st.val → ∃ r : List Byte, r.length = 102 ∧
      exec (.queryStream p b) s = .next (s.acked p r) ∧
      r.take 2 = [b, (s.stream st).state.code] ∧ r.getD 8 0 = BitVec.ofNat 8 (s.stream st).quota ∧
      (r.drop 17).take 4 = be32 (s.stream st).nextSequence ∧
      r.getD 26 0 = BitVec.ofNat 8 (s.stream st).ready.length ∧
      r.getD 80 0 = BitVec.ofNat 8 (pageCount s st) ∧ (r.drop 81).take 4 = be32 (s.stream st).published ∧
      r.getD 101 0 = BitVec.ofNat 8 (committedSum s)) ∧
    (∀ k : Port, b.toNat = k.val → ∃ r : List Byte, r.length = 82 ∧
      exec (.queryEgress p b) s = .next (s.acked p r) ∧
      r.take 3 = [b, (s.egress k).run.code, if (s.egress k).stopPending then 1 else 0] ∧
      (r.drop 26).take 2 = be16 (BitVec.ofNat 16 (s.egress k).totalLines) ∧
      (r.drop 61).take 4 = be32 (s.egress k).flips ∧
      ∀ j : Port, (r.getD 81 0).getLsbD j.val = decide ((s.egress j).source = .follow k)) ∧
    (∀ g : PageNo, b.toNat = g.val → ∃ r : List Byte, r.length = 38 ∧
      exec (.queryPage p b) s = .next (s.acked p r) ∧ r.take 2 = [b, (s.page g).state.code] ∧
      (r.drop 24).take 2 = be16 (BitVec.ofNat 16 (s.page g).lineCount) ∧
      r.getD 30 0 = (s.page g).damage.setWidth 8 ∧ r.getD 35 0 = (s.page g).holders) ∧
    ∀ k : Port, b.toNat = k.val → ∃ r : List Byte, r.length = 46 ∧
      exec (.queryIngress p b) s = .next (s.acked p r) ∧
      r.take 3 = [b, if (s.capture k).laneUp then 1 else 0, (s.context k 0).code] ∧
      (r.drop 26).take 4 = be32 (s.capture k).formatErrors ∧ (r.drop 42).take 4 = be32 (s.capture k).laneDowns

/-! ### Egress timing -/

/-- R97, R98: a timing set in range is stored as pending, or is current at once in a STOPPED egress. -/
def Obligations.SetTimingStoresTheTiming : Prop :=
  ∀ (p : Port) (period active total lineBytes : Word16) (back front tag : Byte) (s : State) (tg : Tag),
    s.inReset = none →
    ((tag.toNat = tg.val ∧ 100 ≤ period.toNat ∧ 1 ≤ active.toNat ∧
        active.toNat + back.toNat + front.toNat ≤ total.toNat ∧ total.toNat ≤ 4095 ∧ 1 ≤ lineBytes.toNat ∧
        lineBytes.toNat ≤ 8192) →
      ((s.egress p).lock = true →
        exec (.setTiming p period active back front total lineBytes tag) s = .next (s.refusedWith p .denied)) ∧
      ((s.egress p).lock = false → (s.egress p).run = .running →
        exec (.setTiming p period active back front total lineBytes tag) s =
          .next ((s.setEgress p { s.egress p with
            pendingTiming := some ⟨period.toNat, active.toNat, back.toNat, front.toNat, total.toNat,
              lineBytes.toNat, tg⟩ }).acked p [])) ∧
      ((s.egress p).lock = false → (s.egress p).run = .stopped →
        exec (.setTiming p period active back front total lineBytes tag) s =
          .next ((s.setEgress p { s.egress p with
            timing := ⟨period.toNat, active.toNat, back.toNat, front.toNat, total.toNat, lineBytes.toNat, tg⟩
            pendingTiming := none, manualTotal := none, totalLines := total.toNat }).acked p []))) ∧
    ((4 ≤ tag.toNat ∨ period.toNat < 100 ∨ active.toNat = 0 ∨
        total.toNat < active.toNat + back.toNat + front.toNat ∨ 4095 < total.toNat ∨ lineBytes.toNat = 0 ∨
        8192 < lineBytes.toNat) →
      exec (.setTiming p period active back front total lineBytes tag) s = .next (s.refusedWith p .badArg))

/-- R100: START_EGRESS of a STOPPED, unlocked egress is a flip of that egress made RUNNING, with stop pending
clear and no frame before it; a RUNNING one refuses it. -/
def Obligations.StartEgressBeginsAFrame : Prop :=
  ∀ (p : Port) (s : State), s.inReset = none → (s.egress p).lock = false →
    ((s.egress p).run = .running → exec (.startEgress p) s = .next (s.refusedWith p .badState)) ∧
    ((s.egress p).run = .stopped → ∃ t,
      exec (.flip p) (s.setEgress p
        { s.egress p with run := .running, stopPending := false, linePosition := none }) = .next t ∧
      exec (.startEgress p) s = .next (t.acked p []) ∧
      (t.egress p).run = .running ∧ (t.egress p).stopPending = false ∧ (t.egress p).linePosition = some 0 ∧
      (t.egress p).flips = (s.egress p).flips + 1 ∧ (t.egress p).source = (s.egress p).source ∧
      (t.egress p).frozen = (s.egress p).frozen ∧ (t.egress p).stallAction = (s.egress p).stallAction ∧
      (t.egress p).fallbackEntry = (s.egress p).fallbackEntry ∧ (t.egress p).fillWord = (s.egress p).fillWord ∧
      ∀ q : Port, q ≠ p → t.egress q = s.egress q ∧ t.capture q = s.capture q ∧ t.pin q = s.pin q)

/-- R98, R108 to R110: the total lines a flip sets, when it raises EG_TRACK and when it leaves it as it was. -/
def Obligations.TrackingSetsTheFrameLength : Prop :=
  ∀ (p : Port) (s : State) (timing : TimingSet) (interval : Option Word32), s.inReset = none →
    (s.egress p).run = .running → (s.egress p).stopPending = false → (s.egress p).FrameOver →
    timing = (s.egress p).pendingTiming.getD (s.egress p).timing →
    interval = (match (s.egress p).source with
      | .stream st => (s.stream st).lastInterval
      | _ => none) →
    ∃ t, exec (.flip p) s = .next t ∧ (t.egress p).timing = timing ∧ (t.egress p).pendingTiming = none ∧
      ((s.egress p).tracking = .off → (t.egress p).totalLines = timing.total ∧
        hasMember (t.notice p).flags 9 = hasMember (s.notice p).flags 9) ∧
      ((s.egress p).tracking = .auto ∨ (s.egress p).tracking = .manual ∧ (s.egress p).trackRequest = true →
        (interval = none → (t.egress p).totalLines = timing.total ∧
          hasMember (t.notice p).flags 9 = hasMember (s.notice p).flags 9) ∧
        ∀ i, interval = some i →
          (i.toNat * 100 / timing.linePeriod ≤ timing.total + (s.egress p).window →
            timing.total ≤ i.toNat * 100 / timing.linePeriod + (s.egress p).window →
            timing.active + timing.backPorch + timing.frontPorch ≤ i.toNat * 100 / timing.linePeriod →
            i.toNat * 100 / timing.linePeriod ≤ 4095 →
            (t.egress p).totalLines = i.toNat * 100 / timing.linePeriod ∧
              hasMember (t.notice p).flags 9 = hasMember (s.notice p).flags 9) ∧
          (timing.total + (s.egress p).window < i.toNat * 100 / timing.linePeriod ∨
              i.toNat * 100 / timing.linePeriod + (s.egress p).window < timing.total ∨
              i.toNat * 100 / timing.linePeriod < timing.active + timing.backPorch + timing.frontPorch ∨
              4095 < i.toNat * 100 / timing.linePeriod →
            (t.egress p).totalLines = timing.total ∧ hasMember (t.notice p).flags 9 = true)) ∧
      ((s.egress p).tracking = .manual → (s.egress p).trackRequest = true →
        (t.egress p).manualTotal = some (t.egress p).totalLines ∧ (t.egress p).trackRequest = false) ∧
      ((s.egress p).tracking = .manual → (s.egress p).trackRequest = false →
        (t.egress p).totalLines =
          (if (s.egress p).pendingTiming.isSome then timing.total
            else (s.egress p).manualTotal.getD timing.total) ∧
          hasMember (t.notice p).flags 9 = hasMember (s.notice p).flags 9)

/-- R99, R104, R105, R141 to R144: what the next frame line of a RUNNING egress puts on the lane. Line 0 is
taken first, then one after another (log entry 7). -/
def Obligations.EgressLineSendsItsPackets : Prop :=
  ∀ (p : Port) (s : State) (m n : Nat) (e : Egress), s.inReset = none → e = s.egress p → e.run = .running →
    e.linePosition = some m →
    (e.lineSent = true ∧ e.totalLines ≤ m + 1 →
      exec (.egressLine p) s = .next (s.setEgress p { e with lane := [] })) ∧
    (e.lineSent = false ∧ n = m ∨ e.lineSent = true ∧ n = m + 1 ∧ n < e.totalLines →
      (n < e.timing.backPorch ∨ e.timing.backPorch + e.timing.active ≤ n →
        exec (.egressLine p) s =
          .next (s.setEgress p { e with linePosition := some n, lineSent := true, lane := [] })) ∧
      ∀ k : Nat, n = e.timing.backPorch + k → k < e.timing.active → PagesWellKept s → PatternsInRange s →
        e.ShowingWellKept →
        ∃ payload : List Byte, payload.length = e.timing.lineBytes ∧
          exec (.egressLine p) s =
            .next (s.setEgress p { e with
              linePosition := some n, lineSent := true
              lane := .line e.timing.tag (BitVec.ofNat 16 k) payload (payloadCheck payload) ::
                if k + 1 = e.timing.active then
                  [.frameEnd e.timing.tag 0 (BitVec.ofNat 16 e.timing.active)] else [] }) ∧
          ∀ j : Nat, j < e.timing.lineBytes →
            (∀ g : PageNo, e.showing = .page → e.held = some g →
              payload.getD j 0 =
                if k < (s.page g).lineCount ∧ j < (s.page g).directory.getD k 0 then
                  s.frameStore.read (g.val * 8388608 + ((s.page g).directory.take k).sum + j)
                else e.frameFill.toList.getD (j % 4) 0) ∧
            (e.showing = .blank → payload.getD j 0 = e.frameFill.toList.getD (j % 4) 0) ∧
            ∀ (x : EntryNo) (c : PatternContent), e.showing = .pattern x → e.patternCopy = some c →
              (c.kind = .fixed → payload.getD j 0 = c.colours.toList.getD (j % c.blockSize) 0) ∧
              (c.kind = .bars → ∀ i : Nat, i = min (j / c.barWidth) (c.barCount - 1) →
                payload.getD j 0 = c.colours.toList.getD (2 * i + (j - i * c.barWidth) % 2) 0) ∧
              (c.kind = .ramp → (payload.getD j 0).toNat =
                ((c.colours.toList.getD 0 0).toNat + j * (c.colours.toList.getD 1 0).toNat) % 256))

/-! ### Egress source and settings -/

/-- R123, R45, R91: SUBSCRIBE leaves the former stream and joins the named one with the cursor absent, the
release rules evaluated for each, and keeps the frame in progress. -/
def Obligations.SubscribeJoinsTheStream : Prop :=
  ∀ (p : Port) (stream : Byte) (s : State), s.inReset = none →
    (8 ≤ stream.toNat → exec (.subscribe p stream) s = .next (s.refusedWith p .badArg)) ∧
    ∀ st : StreamNo, stream.toNat = st.val → (s.egress p).lock = false →
      ((s.stream st).state.isOpen = false → exec (.subscribe p stream) s = .next (s.refusedWith p .badState)) ∧
      ((s.stream st).state.isOpen = true → SubscriptionsExact s →
        ∃ t, exec (.subscribe p stream) s = .next t ∧ t.link p = some ⟨.ok, 0, []⟩ ∧
          t.egress p = { s.egress p with source := .stream st, cursor := none } ∧
          (∀ q : Port, q ≠ p → t.egress q = s.egress q) ∧
          (∀ (n : StreamNo) (q : Port), hasMember (t.stream n).subscribers q =
            if q = p then decide (n = st) else hasMember (s.stream n).subscribers q) ∧
          (∀ left : State, left = (match (s.egress p).source with
              | .stream u => evaluateRelease u (s.setStream u
                  { s.stream u with subscribers := dropMember (s.stream u).subscribers p })
              | _ => s) →
            t = (evaluateRelease st ((left.setStream st
              { left.stream st with subscribers := addMember (left.stream st).subscribers p }).setEgress p
                { s.egress p with source := .stream st, cursor := none })).acked p []) ∧
          t.captures = s.captures ∧ t.pins = s.pins ∧ t.patterns = s.patterns ∧ t.frameStore = s.frameStore ∧
          t.timeBase = s.timeBase)

/-- R124, R125, R91: FOLLOW and DETACH leave any subscription, with the release rules of that stream
evaluated, make the cursor absent and set the source. -/
def Obligations.FollowAndDetachSetTheSource : Prop :=
  ∀ (p : Port) (leader : Byte) (s : State), s.inReset = none →
    (4 ≤ leader.toNat ∨ leader.toNat = p.val →
      exec (.follow p leader) s = .next (s.refusedWith p .badArg)) ∧
    ∀ k : Port, leader.toNat = k.val → k ≠ p → (s.egress p).lock = false →
      ((s.egress k).source.isFollow = true →
        exec (.follow p leader) s = .next (s.refusedWith p .badState)) ∧
      ((∃ j : Port, (s.egress j).source = .follow p) →
        exec (.follow p leader) s = .next (s.refusedWith p .badState)) ∧
      ∀ (c : Instr) (v : Source),
        (c = .follow p leader ∧ v = .follow k ∧ (s.egress k).source.isFollow = false ∧
            (∀ j : Port, (s.egress j).source ≠ .follow p)) ∨ (c = .detach p ∧ v = .none) →
        SubscriptionsExact s →
        ∃ t, exec c s = .next t ∧ t.link p = some ⟨.ok, 0, []⟩ ∧
          t.egress p = { s.egress p with source := v, cursor := none } ∧
          (∀ q : Port, q ≠ p → t.egress q = s.egress q) ∧
          (∀ (n : StreamNo) (q : Port), hasMember (t.stream n).subscribers q =
            if q = p then false else hasMember (s.stream n).subscribers q) ∧
          (∀ u : StreamNo, (s.egress p).source = .stream u →
            t = ((evaluateRelease u (s.setStream u
              { s.stream u with subscribers := dropMember (s.stream u).subscribers p })).setEgress p
                { s.egress p with source := v, cursor := none }).acked p []) ∧
          t.captures = s.captures ∧ t.pins = s.pins ∧ t.patterns = s.patterns ∧ t.frameStore = s.frameStore ∧
          t.timeBase = s.timeBase

/-- R101, R110, R111, R128, R129, R130: the commands of an unlocked egress that store one setting:
STOP_EGRESS, SET_TRACKING, TRACK_NOW, FREEZE, THAW, SET_FALLBACK and LOCK_EGRESS. -/
def Obligations.EgressSettingsAreStored : Prop :=
  ∀ (p : Port) (mode : TrackingMode) (window entry : Byte) (action : StallAction) (n : EntryNo)
    (fill : Vector Byte 4) (s : State), s.inReset = none → (s.egress p).lock = false →
    ((s.egress p).run = .running →
      exec (.stopEgress p) s = .next ((s.setEgress p { s.egress p with stopPending := true }).acked p [])) ∧
    ((s.egress p).run = .stopped → (s.egress p).stopPending = false →
      exec (.stopEgress p) s = .next (s.acked p [])) ∧
    exec (.setTracking p mode.code window) s =
      .next ((s.setEgress p { s.egress p with
        tracking := mode, window := window.toNat, trackRequest := false, manualTotal := none }).acked p []) ∧
    ((s.egress p).tracking = .manual →
      exec (.trackNow p) s = .next ((s.setEgress p { s.egress p with trackRequest := true }).acked p [])) ∧
    ((s.egress p).tracking ≠ .manual → exec (.trackNow p) s = .next (s.refusedWith p .badState)) ∧
    exec (.freeze p) s = .next ((s.setEgress p { s.egress p with frozen := true }).acked p []) ∧
    exec (.thaw p) s = .next ((s.setEgress p { s.egress p with frozen := false }).acked p []) ∧
    (entry.toNat = n.val → exec (.setFallback p action.code entry fill) s =
      .next ((s.setEgress p { s.egress p with
        stallAction := action, fallbackEntry := n, fillWord := fill }).acked p [])) ∧
    (s.cfgHold = false →
      exec (.lockEgress p) s = .next ((s.setEgress p { s.egress p with lock := true }).acked p [])) ∧
    (s.cfgHold = true → exec (.lockEgress p) s = .next (s.refusedWith p .denied))

/-- R130: a locked egress refuses every command that would change it, after the command's BAD_ARG test, which
comes first whether the egress is locked or not (R111, R123, R129). -/
def Obligations.LockedEgressRefusesItsCommands : Prop :=
  ∀ (p : Port) (s : State), s.inReset = none →
    ((s.egress p).lock = true →
      ∀ c : Instr, c = .startEgress p ∨ c = .stopEgress p ∨ c = .trackNow p ∨ c = .detach p ∨ c = .freeze p ∨
        c = .thaw p ∨ c = .lockEgress p ∨ (∃ b : Byte, c = .subscribe p b ∧ b.toNat < 8) ∨
        (∃ b : Byte, c = .follow p b ∧ b.toNat < 4 ∧ b.toNat ≠ p.val) ∨
        (∃ b w : Byte, c = .setTracking p b w ∧ b.toNat < 3) ∨
        (∃ (a b : Byte) (f : Vector Byte 4), c = .setFallback p a b f ∧ a.toNat < 3 ∧ b.toNat < 8) →
      exec c s = .next (s.refusedWith p .denied)) ∧
    (∀ b : Byte, 8 ≤ b.toNat → exec (.subscribe p b) s = .next (s.refusedWith p .badArg)) ∧
    (∀ b w : Byte, 3 ≤ b.toNat → exec (.setTracking p b w) s = .next (s.refusedWith p .badArg)) ∧
    ∀ (a b : Byte) (f : Vector Byte 4), 3 ≤ a.toNat ∨ 8 ≤ b.toNat →
      exec (.setFallback p a b f) s = .next (s.refusedWith p .badArg)

/-! ### The flip -/

/-- R102, R127: a stopping flip. R115: a STOPPED egress has no flip. R99: nor has one whose frame still has a
line to come (log entry 8). -/
def Obligations.StoppingFlipStopsTheEgress : Prop :=
  ∀ (p : Port) (s : State) (e : Egress), s.inReset = none → e = s.egress p →
    (e.run = .stopped ∨ ¬ e.FrameOver → exec (.flip p) s = .next s) ∧
    (e.run = .running → e.stopPending = true → e.FrameOver → ∃ t, exec (.flip p) s = .next t ∧
      t.egress p =
        { e with
          run := .stopped, stopPending := false, linePosition := none, lineSent := false, cursor := none
          held := none, showing := .blank, patternCopy := none, lane := []
          timing := e.pendingTiming.getD e.timing, pendingTiming := none
          manualTotal := if e.pendingTiming.isSome then none else e.manualTotal
          totalLines := (e.pendingTiming.map TimingSet.total).getD e.totalLines } ∧
      (∀ q : Port, q ≠ p → t.egress q = s.egress q) ∧
      (∀ j : Port, (s.egress j).source = .follow p → hasMember (t.notice j).flags 7 = true) ∧
      (∀ g : PageNo, e.held = some g → hasMember (t.page g).holders (Holder.egress p).bit = false) ∧
      (∀ (g : PageNo) (u : StreamNo) (left : State), e.held = some g → (s.page g).stream = some u →
        hasMember (s.page g).holders (Holder.egress p).bit = true →
        left = evaluateRelease u ((s.setEgress p { e with held := none }).setPage g
          { s.page g with
            holders := dropMember (s.page g).holders (Holder.egress p).bit
            holdCount := (s.page g).holdCount - 1 }) →
        ∀ last : State, last = (match e.source with
            | .stream st => evaluateRelease st (left.setEgress p { e with held := none, cursor := none })
            | _ => left) →
          t.pages = last.pages ∧ t.freeList = last.freeList ∧ t.streams = last.streams) ∧
      t.captures = s.captures ∧ t.pins = s.pins ∧ t.patterns = s.patterns ∧ t.frameStore = s.frameStore)

/-- R116, R120, R122, R87 to R89: a frozen flip keeps the frame and repeats; a flip without a source shows
BLANK, frozen or not, and its page is freed exactly when its last hold was the egress and the rule of its
stream calls for it. -/
def Obligations.FrozenAndSourcelessFlips : Prop :=
  ∀ (p : Port) (s : State) (e : Egress), s.inReset = none → e = s.egress p → e.run = .running →
    e.stopPending = false → e.FrameOver →
    (e.frozen = true → e.source ≠ .none → ∃ t, exec (.flip p) s = .next t ∧ (t.egress p).held = e.held ∧
      (t.egress p).showing = e.showing ∧ (t.egress p).patternCopy = e.patternCopy ∧
      (t.egress p).cursor = e.cursor ∧ (t.egress p).repeats = e.repeats + 1 ∧ (t.egress p).flips = e.flips + 1 ∧
      (t.egress p).newFrames = e.newFrames ∧ (t.egress p).dropped = e.dropped ∧
      (t.egress p).fallbackFrames = (if e.showing = .page then e.fallbackFrames else e.fallbackFrames + 1) ∧
      hasMember (t.notice p).flags 8 = hasMember (s.notice p).flags 8 ∧ t.pages = s.pages ∧
      t.streams = s.streams ∧ t.freeList = s.freeList) ∧
    (e.source = .none → ∃ t, exec (.flip p) s = .next t ∧ (t.egress p).held = none ∧
      (t.egress p).showing = .blank ∧ (t.egress p).patternCopy = none ∧
      (t.egress p).fallbackFrames = e.fallbackFrames + 1 ∧ (t.egress p).flips = e.flips + 1 ∧
      (t.egress p).repeats = e.repeats ∧ (t.egress p).newFrames = e.newFrames ∧
      hasMember (t.notice p).flags 8 = (hasMember (s.notice p).flags 8 || decide (e.showing = .page)) ∧
      (∀ g : PageNo, e.held = some g → hasMember (t.page g).holders (Holder.egress p).bit = false) ∧
      (Coherent s → ∀ (g : PageNo) (u : StreamNo) (q : Word32), e.held = some g → (s.page g).stream = some u →
        (s.page g).sequence = some q →
        t.page g =
          if (s.page g).holdCount = 1 ∧ RuleCallsFor s u ⟨g, q⟩ then Page.cleared
          else
            { s.page g with
              holders := dropMember (s.page g).holders (Holder.egress p).bit
              holdCount := (s.page g).holdCount - 1 }))

/-- R117: in a coherent state a flip takes its candidate: the newest page of a LATEST stream or the oldest
later page of a QUEUED one. -/
def Obligations.FlipTakesTheCandidate : Prop :=
  ∀ (p : Port) (s : State) (e : Egress) (st : StreamNo) (c : ReadyEntry), Coherent s → s.inReset = none →
    e = s.egress p → e.run = .running → e.stopPending = false → e.FrameOver →
    e.frozen = false → e.source = .stream st →
    ((s.stream st).mode = .latest ∧ (s.stream st).ready.getLast? = some c ∧
        (∀ q, e.cursor = some q → IsLater c.sequence q)) ∨
      ((s.stream st).mode = .queued ∧
        ((s.stream st).ready.filter fun x => match e.cursor with
          | none => true
          | some q => decide (IsLater x.sequence q)).head? = some c) →
    ∃ t, exec (.flip p) s = .next t ∧ (t.egress p).held = some c.page ∧
      (t.egress p).cursor = some c.sequence ∧ (t.egress p).showing = .page ∧ (t.egress p).patternCopy = none ∧
      (t.egress p).newFrames = e.newFrames + 1 ∧ (t.egress p).repeats = e.repeats ∧
      (t.egress p).fallbackFrames = e.fallbackFrames ∧ (t.egress p).flips = e.flips + 1 ∧
      (t.egress p).dropped = (match (s.stream st).mode, e.cursor with
        | .latest, some q => e.dropped + (c.sequence - q - 1)
        | _, _ => e.dropped) ∧
      (t.page c.page).state = .ready ∧ (t.page c.page).viewed = true ∧
      hasMember (t.page c.page).holders (Holder.egress p).bit = true ∧
      ∀ g : PageNo, e.held = some g → g ≠ c.page →
        hasMember (t.page g).holders (Holder.egress p).bit = false

/-- R118, R119, R122: what a flip shows when its stream has no page later than its cursor. -/
def Obligations.FlipWithoutCandidate : Prop :=
  ∀ (p : Port) (s : State) (e : Egress) (st : StreamNo), EgressesWellKept s → s.inReset = none →
    e = s.egress p → e.run = .running → e.stopPending = false → e.FrameOver →
    e.frozen = false → e.source = .stream st →
    (∀ x ∈ (s.stream st).ready, ∃ q, e.cursor = some q ∧ ¬ IsLater x.sequence q) →
    ∃ t, exec (.flip p) s = .next t ∧ (t.egress p).cursor = e.cursor ∧
      (t.egress p).flips = e.flips + 1 ∧ (t.egress p).newFrames = e.newFrames ∧
      (t.egress p).dropped = e.dropped ∧
      (e.held.isSome = true ∧ ((s.stream st).state ≠ .stalled ∨ e.stallAction = .hold) →
        (t.egress p).held = e.held ∧ (t.egress p).showing = .page ∧ (t.egress p).repeats = e.repeats + 1 ∧
          (t.egress p).fallbackFrames = e.fallbackFrames ∧ t.pages = s.pages) ∧
      (e.held = none ∨ (s.stream st).state = .stalled ∧ e.stallAction ≠ .hold →
        (t.egress p).held = none ∧ (t.egress p).repeats = e.repeats ∧
          (t.egress p).fallbackFrames = e.fallbackFrames + 1 ∧
          (∀ g : PageNo, e.held = some g → hasMember (t.page g).holders (Holder.egress p).bit = false) ∧
          (e.showing = .page → hasMember (t.notice p).flags 8 = true) ∧
          (e.stallAction = .pattern → (s.pattern e.fallbackEntry).valid = true →
            (t.egress p).showing = .pattern e.fallbackEntry ∧
              (t.egress p).patternCopy = some (s.pattern e.fallbackEntry).content) ∧
          (e.stallAction ≠ .pattern ∨ (s.pattern e.fallbackEntry).valid = false →
            (t.egress p).showing = .blank ∧ (t.egress p).patternCopy = none))

/-- R121, R122: what a follower shows, read from its leader's egress. -/
def Obligations.FlipFollowsTheLeader : Prop :=
  ∀ (p k : Port) (s : State) (e l : Egress), Coherent s → s.inReset = none → e = s.egress p →
    l = s.egress k → e.run = .running → e.stopPending = false → e.FrameOver →
    e.frozen = false → e.source = .follow k →
    ∃ t, exec (.flip p) s = .next t ∧ (t.egress p).cursor = e.cursor ∧ (t.egress p).dropped = e.dropped ∧
      (t.egress p).flips = e.flips + 1 ∧ t.egress k = l ∧
      hasMember (t.notice p).flags 8 =
        (hasMember (s.notice p).flags 8 || decide (e.showing = .page ∧ (t.egress p).showing ≠ .page)) ∧
      (∀ g : PageNo, e.held = some g → (t.egress p).held ≠ some g →
        hasMember (t.page g).holders (Holder.egress p).bit = false) ∧
      (∀ g : PageNo, l.run = .running → l.held = some g →
        (t.egress p).held = some g ∧ (t.egress p).showing = .page ∧ (t.egress p).patternCopy = none ∧
          (t.egress p).repeats = (if e.held = some g then e.repeats + 1 else e.repeats) ∧
          (t.egress p).newFrames = (if e.held = some g then e.newFrames else e.newFrames + 1) ∧
          hasMember (t.page g).holders (Holder.egress p).bit = true) ∧
      (∀ x : EntryNo, l.run = .running → l.showing = .pattern x →
        (t.egress p).held = none ∧ (t.egress p).showing = .pattern x ∧
          (t.egress p).patternCopy = l.patternCopy) ∧
      (l.run = .stopped ∨ l.showing = .blank →
        (t.egress p).held = none ∧ (t.egress p).showing = .blank ∧ (t.egress p).patternCopy = none)

/-- R122: a flip that is neither stopping nor frozen advances flips and exactly one of new frames, repeats
and fallback frames. -/
def Obligations.EveryFlipIsCountedOnce : Prop :=
  ∀ (p : Port) (s : State) (e : Egress), EgressesWellKept s → s.inReset = none → e = s.egress p →
    e.run = .running → e.stopPending = false → e.FrameOver →
    e.frozen = false ∨ e.source = .none →
    ∃ t, exec (.flip p) s = .next t ∧ (t.egress p).flips = e.flips + 1 ∧
      (((t.egress p).newFrames = e.newFrames + 1 ∧ (t.egress p).repeats = e.repeats ∧
          (t.egress p).fallbackFrames = e.fallbackFrames ∧ (t.egress p).showing = .page) ∨
        ((t.egress p).newFrames = e.newFrames ∧ (t.egress p).repeats = e.repeats + 1 ∧
          (t.egress p).fallbackFrames = e.fallbackFrames ∧ (t.egress p).showing = .page) ∨
        ((t.egress p).newFrames = e.newFrames ∧ (t.egress p).repeats = e.repeats ∧
          (t.egress p).fallbackFrames = e.fallbackFrames + 1 ∧ (t.egress p).showing ≠ .page))

/-- R99, R103, R104: a flip that is not stopping begins the frame at line 0 and puts its FRAME_START and its
metadata on the lane. -/
def Obligations.FlipOpensTheFrame : Prop :=
  ∀ (p : Port) (s : State), s.inReset = none → (s.egress p).run = .running →
    (s.egress p).stopPending = false → (s.egress p).FrameOver →
    ∃ t, exec (.flip p) s = .next t ∧ (t.egress p).run = .running ∧ (t.egress p).linePosition = some 0 ∧
      (t.egress p).lineSent = false ∧ (t.egress p).frameFill = (s.egress p).fillWord ∧
      ((t.egress p).showing ≠ .page → (t.egress p).lane = [.frameStart (t.egress p).timing.tag 0 0]) ∧
      ∀ (g : PageNo) (q : Word32), (t.egress p).showing = .page → (t.egress p).held = some g →
        (t.page g).sequence = some q →
        ∃ rest, (t.egress p).lane =
            .frameStart (t.egress p).timing.tag (t.page g).kind (q.extractLsb' 0 16) :: rest ∧
          ((t.page g).metadata = none → rest = []) ∧
          ∀ m : List Byte, (t.page g).metadata = some m →
            (m.length ≤ 32 → rest = [.sideband (t.egress p).timing.tag m (payloadCheck m)]) ∧
            (32 < m.length → rest = [.sideband (t.egress p).timing.tag (m.take 32) (payloadCheck (m.take 32)),
              .sideband (t.egress p).timing.tag (m.drop 32) (payloadCheck (m.drop 32))])

/-! ### Pins and read-back -/

/-- R146, R147, R12, R18: PIN_PAGE and PIN_NEWEST take a hold on a READY page, or are refused. -/
def Obligations.PinsTakeAHold : Prop :=
  ∀ (p : Port) (b : Byte) (s : State), s.inReset = none →
    (16 ≤ b.toNat → exec (.pinPage p b) s = .next (s.refusedWith p .badArg)) ∧
    (8 ≤ b.toNat → exec (.pinNewest p b) s = .next (s.refusedWith p .badArg)) ∧
    (∀ c : Instr, c = .pinPage p b ∧ b.toNat < 16 ∨ c = .pinNewest p b ∧ b.toNat < 8 →
      (s.pin p).isSome = true → exec c s = .next (s.refusedWith p .badState)) ∧
    (∀ g : PageNo, b.toNat = g.val → s.pin p = none → (s.page g).state ≠ .ready →
      exec (.pinPage p b) s = .next (s.refusedWith p .badState)) ∧
    (∀ st : StreamNo, b.toNat = st.val → s.pin p = none →
      (s.stream st).state = .closed ∨ (s.stream st).ready = [] →
      exec (.pinNewest p b) s = .next (s.refusedWith p .badState)) ∧
    ∀ (c : Instr) (g : PageNo) (q : Word32),
      (c = .pinPage p b ∧ b.toNat = g.val) ∨
        (∃ st : StreamNo, c = .pinNewest p b ∧ b.toNat = st.val ∧ (s.stream st).state ≠ .closed ∧
          (s.stream st).ready.getLast?.map ReadyEntry.page = some g) →
      s.pin p = none → (s.page g).state = .ready → (s.page g).sequence = some q →
      hasMember (s.page g).holders (Holder.pin p).bit = false →
      exec c s = .next (((s.setPage g
          { s.page g with
            holders := addMember (s.page g).holders (Holder.pin p).bit
            holdCount := (s.page g).holdCount + 1, viewed := true }).setPin p (some g)).acked p
        [BitVec.ofNat 8 g.val, q.extractLsb' 24 8, q.extractLsb' 16 8, q.extractLsb' 8 8, q.extractLsb' 0 8])

/-- R148, R13, R87 to R89: UNPIN empties the slot and gives up the hold; in a coherent state the page is freed
exactly when its last hold was the pin and the rule of its stream calls for it, and otherwise keeps its record
less the hold; a drain ends with its last page (R37). -/
def Obligations.UnpinGivesUpTheHold : Prop :=
  ∀ (p : Port) (s : State), s.inReset = none →
    (s.pin p = none → exec (.unpin p) s = .next (s.acked p [0, 0])) ∧
    ∀ g : PageNo, s.pin p = some g → Coherent s → ∃ t, exec (.unpin p) s = .next t ∧
      t.link p = some ⟨.ok, 2, [1, BitVec.ofNat 8 g.val]⟩ ∧ t.pin p = none ∧
      (∀ (st : StreamNo) (q : Word32), (s.page g).stream = some st → (s.page g).sequence = some q →
        t.page g =
          (if (s.page g).holdCount = 1 ∧ RuleCallsFor s st ⟨g, q⟩ then Page.cleared
            else
              { s.page g with
                holders := dropMember (s.page g).holders (Holder.pin p).bit
                holdCount := (s.page g).holdCount - 1 }) ∧
        ((s.page g).holdCount = 1 → RuleCallsFor s st ⟨g, q⟩ → g ∈ t.freeList) ∧
        (((s.page g).holdCount ≠ 1 ∨ ¬ RuleCallsFor s st ⟨g, q⟩) → g ∉ t.freeList) ∧
        ((s.stream st).state = .draining → (s.page g).holdCount = 1 → pageCount s st = 1 →
          (t.stream st).state = .closed ∧ (t.stream st).owner = none ∧
            ∀ o : Port, (s.stream st).owner = some o →
              hasMember (t.notice o).flags 3 = true ∧ hasMember (t.notice o).drainedSet st = true) ∧
        ((s.stream st).state ≠ .draining ∨ (s.page g).holdCount ≠ 1 ∨ pageCount s st ≠ 1 →
          (t.stream st).state = (s.stream st).state ∧ (t.stream st).owner = (s.stream st).owner ∧
            t.notices = s.notices) ∧
        ∀ n : StreamNo, n ≠ st → t.stream n = s.stream n) ∧
      (∀ q : Port, q ≠ p → t.pin q = s.pin q) ∧ t.egresses = s.egresses ∧ t.captures = s.captures ∧
      t.frameStore = s.frameStore

/-- R150 to R152, R174, R1: READ_LINE and READ_META answer the bytes of the page the issuing port holds, and
are refused in the order of R151. -/
def Obligations.ReadsReturnTheHeldPage : Prop :=
  ∀ (p : Port) (selector : Byte) (index offset count : Word16) (s : State), s.inReset = none →
    ((2 ≤ selector.toNat ∨ 4094 < index.toNat ∨ 8191 < offset.toNat ∨ count.toNat = 0 ∨ 256 < count.toNat) →
      exec (.readLine p selector index offset count) s = .next (s.refusedWith p .badArg)) ∧
    (2 ≤ selector.toNat → exec (.readMeta p selector) s = .next (s.refusedWith p .badArg)) ∧
    (index.toNat ≤ 4094 → offset.toNat ≤ 8191 → 1 ≤ count.toNat → count.toNat ≤ 256 →
      (selector.toNat = 0 ∧ s.pin p = none ∨ selector.toNat = 1 ∧ (s.egress p).held = none →
        exec (.readLine p selector index offset count) s = .next (s.refusedWith p .badState) ∧
          exec (.readMeta p selector) s = .next (s.refusedWith p .badState)) ∧
      ∀ (g : PageNo) (q : Word32), (s.page g).sequence = some q →
        (selector.toNat = 0 ∧ s.pin p = some g ∨ selector.toNat = 1 ∧ (s.egress p).held = some g) →
        ((s.page g).lineCount ≤ index.toNat ∨
            (s.page g).directory.getD index.toNat 0 < offset.toNat + count.toNat →
          exec (.readLine p selector index offset count) s = .next (s.refusedWith p .badArg)) ∧
        (PagesWellKept s → index.toNat < (s.page g).lineCount →
          offset.toNat + count.toNat ≤ (s.page g).directory.getD index.toNat 0 →
          exec (.readLine p selector index offset count) s =
            .next (s.setLink p (some ⟨.ok, BitVec.ofNat 8 (count.toNat - 1),
              [BitVec.ofNat 8 g.val] ++ be32 q ++
                be16 (BitVec.ofNat 16 ((s.page g).directory.getD index.toNat 0)) ++
                [BitVec.ofNat 8 (count.toNat - 1)] ++
                (List.range count.toNat).map fun i =>
                  s.frameStore.read
                    (g.val * 8388608 + ((s.page g).directory.take index.toNat).sum + offset.toNat + i)⟩))) ∧
        exec (.readMeta p selector) s =
          .next (s.acked p ([BitVec.ofNat 8 g.val] ++ be32 q ++
            match (s.page g).metadata with
            | none => [0, 0]
            | some m => [1, BitVec.ofNat 8 m.length] ++ m)))

/-! ### Ingress -/

/-- R39, R42, R56, R75 to R77, R7, R8: a FRAME_START of a bound pair below the quota takes the head of the
free list; at the quota it takes over the oldest unheld page. -/
def Obligations.FrameStartGetsAPage : Prop :=
  ∀ (p : Port) (tg : Tag) (kind : Byte) (number : Word16) (s : State) (st : StreamNo) (r : Stream),
    Coherent s → s.inReset = none → (s.capture p).laneUp = true → kind.toNat ≤ 63 → r = s.stream st →
    r.binding = some ⟨p, tg⟩ → (s.context p tg = .idle ∨ s.context p tg = .discarding) →
    (∀ (g : PageNo) (rest : List PageNo), pageCount s st < r.quota → s.freeList = g :: rest →
      ∃ t, exec (.frameStart p tg kind number) s = .next t ∧ t.freeList = rest ∧
        t.stream st =
          { r with
            state := .live, filling := some g, lastStart := some s.timeBase
            lastInterval := (match r.lastStart with
              | none => r.lastInterval
              | some u => some (s.timeBase - u))
            timer := if r.stallTimeout = 0 then .stopped else .running (1000 * r.stallTimeout) } ∧
        t.page g =
          ⟨.filling, some st, some ⟨p, tg⟩, none, kind, number, s.timeBase, none, 0, [], 0, 0, none, false, 0, 0⟩ ∧
        (∀ h : PageNo, h ≠ g → t.page h = s.page h) ∧ (∀ n : StreamNo, n ≠ st → t.stream n = s.stream n) ∧
        t.context p tg = .capturing g ∧
        (r.state = .stalled → ∀ o : Port, r.owner = some o →
          hasMember (t.notice o).flags 1 = true ∧ hasMember (t.notice o).resumeSet st = true) ∧
        (r.state ≠ .stalled → t.notices = s.notices) ∧
        t.egresses = s.egresses ∧ t.pins = s.pins ∧ t.frameStore = s.frameStore) ∧
    ∀ (before after : List ReadyEntry) (e : ReadyEntry), pageCount s st = r.quota →
      r.mode = .latest ∨ r.subscribers = 0#4 → r.ready = before ++ e :: after →
      (∀ x ∈ before, 0 < (s.page x.page).holdCount) → (s.page e.page).holdCount = 0 →
      ∃ t, exec (.frameStart p tg kind number) s = .next t ∧ t.freeList = s.freeList ∧
        (t.stream st).ready = before ++ after ∧ (t.stream st).filling = some e.page ∧
        (t.stream st).state = .live ∧ (t.stream st).nextSequence = r.nextSequence ∧
        (t.stream st).skipped = r.skipped ∧
        (t.stream st).reclaimed = (if (s.page e.page).viewed then r.reclaimed else r.reclaimed + 1) ∧
        t.page e.page =
          ⟨.filling, some st, some ⟨p, tg⟩, none, kind, number, s.timeBase, none, 0, [], 0, 0, none, false, 0, 0⟩ ∧
        (∀ h : PageNo, h ≠ e.page → t.page h = s.page h) ∧ t.context p tg = .capturing e.page

/-- R55, R78, R54: a FRAME_START of an unbound pair is rejected; one that finds no page is skipped; one that
reaches a CAPTURING context aborts the open frame first. -/
def Obligations.FrameStartRejectedSkippedOrAborting : Prop :=
  ∀ (p : Port) (tg : Tag) (kind : Byte) (number : Word16) (s : State), s.inReset = none →
    (s.capture p).laneUp = true → kind.toNat ≤ 63 →
    ((∀ n : StreamNo, (s.stream n).binding ≠ some ⟨p, tg⟩) →
      s.context p tg = .idle ∨ s.context p tg = .discarding →
      exec (.frameStart p tg kind number) s =
        .next (raiseAt p .inReject (s.setCapture p
          { s.capture p with
            contexts := Table.put (s.capture p).contexts tg .discarding
            rejects := (s.capture p).rejects + 1 }))) ∧
    ∀ (st : StreamNo) (o : Port), Coherent s → (s.stream st).binding = some ⟨p, tg⟩ →
      (s.stream st).owner = some o →
      (s.context p tg = .idle ∨ s.context p tg = .discarding → pageCount s st = (s.stream st).quota →
        ((s.stream st).mode = .queued ∧ (s.stream st).subscribers ≠ 0#4) ∨
          (∀ e ∈ (s.stream st).ready, 0 < (s.page e.page).holdCount) →
        ∃ t, exec (.frameStart p tg kind number) s = .next t ∧ t.pages = s.pages ∧ t.freeList = s.freeList ∧
          t.context p tg = .discarding ∧ (t.stream st).skipped = (s.stream st).skipped + 1 ∧
          (t.stream st).state = .live ∧ (t.stream st).ready = (s.stream st).ready ∧
          (t.stream st).nextSequence = (s.stream st).nextSequence ∧ (t.stream st).filling = none ∧
          hasMember (t.notice o).flags 2 = true ∧ hasMember (t.notice o).skipSet st = true) ∧
      ∀ (g h : PageNo) (rest : List PageNo), s.context p tg = .capturing g → s.freeList ++ [g] = h :: rest →
        ∃ t, exec (.frameStart p tg kind number) s = .next t ∧ t.context p tg = .capturing h ∧
          t.freeList = rest ∧ (t.stream st).aborted = (s.stream st).aborted + 1 ∧
          (t.stream st).filling = some h ∧ (t.page h).state = .filling ∧
          (h ≠ g → t.page g = Page.cleared) ∧
          hasMember (t.notice o).flags 2 = true ∧ hasMember (t.notice o).skipSet st = true

/-- R57 to R60, R9, R10: what a LINE and a SIDEBAND leave in the page of a CAPTURING context. -/
def Obligations.LinesAndMetadataAreStored : Prop :=
  ∀ (p : Port) (tg : Tag) (number check : Word16) (payload : List Byte) (s : State) (g : PageNo) (r : Page),
    s.inReset = none → (s.capture p).laneUp = true → s.context p tg = .capturing g → r = s.page g →
    r.state = .filling → r.producer = some ⟨p, tg⟩ → 1 ≤ payload.length →
    (payload.length ≤ 8192 → number.toNat ≤ 4094 →
      ((4095 ≤ r.lineCount ∨ 8388608 < r.bytesUsed + payload.length) →
        (check = payloadCheck payload → exec (.line p tg number payload check) s =
          .next (s.setPage g { r with damage := addMember r.damage 0 })) ∧
        (check ≠ payloadCheck payload → exec (.line p tg number payload check) s =
          .next (raiseAt p .inFormat ((s.setPage g { r with damage := addMember r.damage 0 }).setCapture p
            { s.capture p with payloadErrors := (s.capture p).payloadErrors + 1 })))) ∧
      (r.lineCount < 4095 → r.bytesUsed + payload.length ≤ 8388608 →
        ∃ t, exec (.line p tg number payload check) s = .next t ∧
          t.page g =
            { r with
              directory := r.directory ++ [payload.length], lineCount := r.lineCount + 1
              bytesUsed := r.bytesUsed + payload.length, damage := (t.page g).damage } ∧
          (∀ b : Fin 6, hasMember (t.page g).damage b =
            (hasMember r.damage b || decide (b = 2 ∧ number.toNat ≠ r.lineCount) ||
              decide (b = 1 ∧ check ≠ payloadCheck payload))) ∧
          t.frameStore = s.frameStore.writeAll (g.val * 8388608 + r.bytesUsed) payload ∧
          (∀ h : PageNo, h ≠ g → t.page h = s.page h) ∧ t.streams = s.streams ∧ t.freeList = s.freeList ∧
          t.egresses = s.egresses ∧ t.pins = s.pins ∧
          (check = payloadCheck payload → t.captures = s.captures ∧ t.notices = s.notices) ∧
          (check ≠ payloadCheck payload → (t.capture p).payloadErrors = (s.capture p).payloadErrors + 1 ∧
            hasMember (t.notice p).flags 5 = true))) ∧
    (payload.length ≤ 32 → (r.metadata.getD []).length ≤ 64 →
      ∃ t, exec (.sideband p tg payload check) s = .next t ∧
        t.page g =
          { r with
            metadata := some ((r.metadata.getD [] ++ payload).take 64), damage := (t.page g).damage } ∧
        (∀ b : Fin 6, hasMember (t.page g).damage b =
          (hasMember r.damage b || decide (b = 5 ∧ 64 < (r.metadata.getD []).length + payload.length) ||
            decide (b = 1 ∧ check ≠ payloadCheck payload))) ∧
        (∀ h : PageNo, h ≠ g → t.page h = s.page h) ∧ t.streams = s.streams ∧ t.freeList = s.freeList ∧
        t.frameStore = s.frameStore ∧
        (check = payloadCheck payload → t.captures = s.captures ∧ t.notices = s.notices) ∧
        (check ≠ payloadCheck payload → (t.capture p).payloadErrors = (s.capture p).payloadErrors + 1 ∧
          hasMember (t.notice p).flags 5 = true))

/-- R51, R63, R64, R49: packets that reach no open frame, and packets that fail their header check; a packet
command with a field out of range has the effect of the failed packet it is (log entry 12), and no packet is
taken while the lane is DOWN (log entry 11). -/
def Obligations.PacketsOutsideAFrame : Prop :=
  ∀ (p : Port) (tg : Tag) (number check claimed : Word16) (kind status : Byte) (payload : List Byte)
    (s : State) (c : Instr),
    (lanePort c = some p → c ≠ .laneUp p → (s.capture p).laneUp = false → exec c s = .next s) ∧
    (s.inReset = none → (s.capture p).laneUp = true →
      (c = .formatError p ∨ (c = .frameStart p tg kind number ∧ 63 < kind.toNat) ∨
          (c = .line p tg number payload check ∧
            (4094 < number.toNat ∨ payload.length = 0 ∨ 8192 < payload.length)) ∨
          (c = .sideband p tg payload check ∧ (payload.length = 0 ∨ 32 < payload.length)) ∨
          (c = .frameEnd p tg status claimed ∧ (1 < status.toNat ∨ 4095 < claimed.toNat)) →
        exec c s =
          .next (raiseAt p .inFormat (s.setCapture p
            { s.capture p with formatErrors := (s.capture p).formatErrors + 1 }))) ∧
      ((c = .line p tg number payload check ∧ number.toNat ≤ 4094 ∧ 1 ≤ payload.length ∧
            payload.length ≤ 8192) ∨
          (c = .sideband p tg payload check ∧ 1 ≤ payload.length ∧ payload.length ≤ 32) ∨
          (c = .frameEnd p tg status claimed ∧ status.toNat ≤ 1 ∧ claimed.toNat ≤ 4095) →
        (s.context p tg = .idle →
          exec c s = .next (raiseAt p .inFormat (s.setCapture p
            { s.capture p with strays := (s.capture p).strays + 1 }))) ∧
        (s.context p tg = .discarding →
          exec c s = .next (if c = .frameEnd p tg status claimed then s.setContext p tg .idle else s))))

/-- R80 to R83, R87, R88, R162: a FRAME_END GOOD publishes the page of a CAPTURING context. -/
def Obligations.PublicationNumbersThePage : Prop :=
  ∀ (p : Port) (tg : Tag) (claimed : Word16) (s : State) (g : PageNo) (st : StreamNo) (r : Stream),
    Coherent s → s.inReset = none → (s.capture p).laneUp = true → claimed.toNat ≤ 4095 →
    s.context p tg = .capturing g → (s.page g).stream = some st → r = s.stream st →
    ∃ t, exec (.frameEnd p tg 0 claimed) s = .next t ∧ t.context p tg = .idle ∧
      (t.stream st).nextSequence = r.nextSequence + 1 ∧ (t.stream st).lastSequence = some r.nextSequence ∧
      (t.stream st).published = r.published + 1 ∧ (t.stream st).filling = none ∧
      (t.stream st).state = r.state ∧ (t.stream st).skipped = r.skipped ∧ (t.stream st).aborted = r.aborted ∧
      ((t.stream st).damaged =
        if (s.page g).damage = 0 ∧ (s.page g).lineCount = claimed.toNat ∧
            (r.expectedLines = 0 ∨ r.expectedLines = claimed.toNat) then r.damaged else r.damaged + 1) ∧
      (∀ (j : Port) (w : Watch), (s.notice j).watch = some w → w.stream = st →
        w.compare = r.lastSequence.getD 0 → hasMember (t.notice j).flags 10 = true) ∧
      (∀ j : Port, (∀ w, (s.notice j).watch = some w → w.stream = st → w.compare ≠ r.lastSequence.getD 0) →
        hasMember (t.notice j).flags 10 = hasMember (s.notice j).flags 10) ∧
      (∀ n : StreamNo, n ≠ st → t.stream n = s.stream n) ∧ t.egresses = s.egresses ∧ t.pins = s.pins ∧
      t.frameStore = s.frameStore ∧
      (∀ b : Fin 6, hasMember (checkedDamage (s.page g) r.expectedLines claimed.toNat) b =
        (hasMember (s.page g).damage b || decide (b = 2 ∧ claimed.toNat ≠ (s.page g).lineCount) ||
          decide (b = 3 ∧ r.expectedLines ≠ 0 ∧ (s.page g).lineCount < r.expectedLines) ||
          decide (b = 4 ∧ r.expectedLines ≠ 0 ∧ r.expectedLines < (s.page g).lineCount))) ∧
      (r.mode = .queued → ∀ (listed : List ReadyEntry) (frees : ReadyEntry → Bool),
        listed = r.ready ++ [⟨g, r.nextSequence⟩] →
        (frees = fun e => decide (r.subscribers ≠ 0#4 ∧ PassedByEverySubscriber s st e.sequence ∧
          (s.page e.page).holdCount = 0)) →
        (t.stream st).ready = listed.filter (fun e => !frees e) ∧
        t.page g =
          (if frees ⟨g, r.nextSequence⟩ then Page.cleared
            else
              { s.page g with
                state := .ready, sequence := some r.nextSequence, endTime := some s.timeBase
                damage := checkedDamage (s.page g) r.expectedLines claimed.toNat }) ∧
        (∀ h : PageNo, h ≠ g → t.page h =
          if r.ready.any (fun e => decide (e.page = h) && frees e) then Page.cleared else s.page h) ∧
        t.freeList = s.freeList ++ (listed.filter frees).map ReadyEntry.page) ∧
      (r.mode = .latest →
        (t.stream st).ready = (r.ready.filter fun e => decide ((s.page e.page).holdCount ≠ 0)) ++
          [⟨g, r.nextSequence⟩] ∧
        t.page g =
          { s.page g with
            state := .ready, sequence := some r.nextSequence, endTime := some s.timeBase
            damage := checkedDamage (s.page g) r.expectedLines claimed.toNat } ∧
        (∀ h : PageNo, h ≠ g → t.page h =
          if (s.page h).stream = some st ∧ (s.page h).holdCount = 0 then Page.cleared else s.page h) ∧
        t.freeList = s.freeList ++
          (r.ready.filter fun e => decide ((s.page e.page).holdCount = 0)).map ReadyEntry.page)

/-- R62, R66, R67, R85: FRAME_END ABANDON and LANE_DOWN abort open frames; LANE_UP. -/
def Obligations.AbandonAndLaneLossAbortFrames : Prop :=
  ∀ (p : Port) (s : State), s.inReset = none →
    ((s.capture p).laneUp = false →
      exec (.laneUp p) s = .next (s.setCapture p { s.capture p with laneUp := true })) ∧
    ((s.capture p).laneUp = true → Coherent s →
      (∃ t, exec (.laneDown p) s = .next t ∧ (t.capture p).laneUp = false ∧
        (∀ tg : Tag, t.context p tg = .idle) ∧ (t.capture p).laneDowns = (s.capture p).laneDowns + 1 ∧
        hasMember (t.notice p).flags 6 = true ∧
        (∀ (tg : Tag) (g : PageNo) (st : StreamNo) (o : Port), s.context p tg = .capturing g →
          (s.page g).stream = some st → (s.stream st).owner = some o →
          t.page g = Page.cleared ∧ (t.stream st).filling = none ∧
            (t.stream st).aborted = (s.stream st).aborted + 1 ∧ (t.stream st).state = (s.stream st).state ∧
            (t.stream st).binding = (s.stream st).binding ∧ (t.stream st).timer = (s.stream st).timer ∧
            hasMember (t.notice o).flags 2 = true ∧ hasMember (t.notice o).skipSet st = true) ∧
        (∀ h : PageNo, (s.page h).state = .ready → t.page h = s.page h) ∧ t.frameStore = s.frameStore) ∧
      ∀ (tg : Tag) (claimed : Word16) (g : PageNo) (st : StreamNo), claimed.toNat ≤ 4095 →
        s.context p tg = .capturing g → (s.page g).stream = some st →
        exec (.frameEnd p tg 1 claimed) s =
          .next ((raiseOwn .skip st (({ s with freeList := s.freeList ++ [g] }.setPage g
              Page.cleared).setStream st
            { s.stream st with filling := none, aborted := (s.stream st).aborted + 1 })).setContext p tg .idle))

/-! ### The pattern library -/

/-- R136, R137, R138: WRITE_PATTERN, LOCK_PATTERN and READ_PATTERN, their refusals in order and their
effects. -/
def Obligations.PatternCommandsWriteLockAndRead : Prop :=
  ∀ (p : Port) (entry blockSize barCount : Byte) (kind : PatternKind) (width : Word16)
    (colours : Vector Byte 16) (s : State), s.inReset = none →
    (8 ≤ entry.toNat →
      exec (.writePattern p entry kind.code blockSize barCount width colours) s =
          .next (s.refusedWith p .badArg) ∧
        exec (.lockPattern p entry) s = .next (s.refusedWith p .badArg) ∧
        exec (.readPattern p entry) s = .next (s.refusedWith p .badArg)) ∧
    ((blockSize.toNat = 0 ∨ 16 < blockSize.toNat ∨ barCount.toNat ∉ [1, 2, 4, 8] ∨ width.toNat = 0 ∨
        8192 < width.toNat) →
      exec (.writePattern p entry kind.code blockSize barCount width colours) s =
        .next (s.refusedWith p .badArg)) ∧
    (∀ k : Byte, 3 ≤ k.toNat →
      exec (.writePattern p entry k blockSize barCount width colours) s = .next (s.refusedWith p .badArg)) ∧
    ∀ n : EntryNo, entry.toNat = n.val →
      (1 ≤ blockSize.toNat → blockSize.toNat ≤ 16 → barCount.toNat ∈ [1, 2, 4, 8] → 1 ≤ width.toNat →
        width.toNat ≤ 8192 →
        (s.cfgHold = true ∨ (s.pattern n).lock = true →
          exec (.writePattern p entry kind.code blockSize barCount width colours) s =
            .next (s.refusedWith p .denied)) ∧
        (s.cfgHold = false → (s.pattern n).lock = false →
          exec (.writePattern p entry kind.code blockSize barCount width colours) s =
            .next ((s.setPattern n ⟨true, false,
              ⟨kind, blockSize.toNat, barCount.toNat, width.toNat, colours⟩⟩).acked p []))) ∧
      (s.cfgHold = true → exec (.lockPattern p entry) s = .next (s.refusedWith p .denied)) ∧
      (s.cfgHold = false → (s.pattern n).valid = false →
        exec (.lockPattern p entry) s = .next (s.refusedWith p .badState)) ∧
      (s.cfgHold = false → (s.pattern n).valid = true →
        exec (.lockPattern p entry) s =
          .next ((s.setPattern n ⟨true, true, (s.pattern n).content⟩).acked p [])) ∧
      exec (.readPattern p entry) s =
        .next (s.acked p ([if (s.pattern n).valid then 1 else 0, if (s.pattern n).lock then 1 else 0,
            (s.pattern n).content.kind.code, BitVec.ofNat 8 (s.pattern n).content.blockSize,
            BitVec.ofNat 8 (s.pattern n).content.barCount] ++
          be16 (BitVec.ofNat 16 (s.pattern n).content.barWidth) ++ (s.pattern n).content.colours.toList ++
          [BitVec.ofNat 8 n.val])) ∧
      (PatternsInRange s → (s.pattern n).valid = false →
        exec (.readPattern p entry) s = .next (s.acked p
          ([0, 0, 0, 1, 1, 0, 1] ++ List.replicate 16 0 ++ [BitVec.ofNat 8 n.val])))

/-! ### Notices -/

/-- R156: a raise sets its flag, joins the stream to the set of an OWN flag, clears nothing, and brings the
line into agreement with flags and mask. -/
def Obligations.RaiseSetsTheFlagAndTheLine : Prop :=
  ∀ (p o : Port) (n : Notice) (w : OwnNotice) (st : StreamNo) (s : State),
    (raiseAt p n s = s.setNotice p
      { s.notice p with
        flags := addMember (s.notice p).flags n.bit
        lineAsserted := decide (addMember (s.notice p).flags n.bit &&& (s.notice p).mask ≠ 0#11) }) ∧
    ((s.stream st).owner = some o → raiseOwn w st s = s.setNotice o
      { s.notice o with
        flags := addMember (s.notice o).flags w.bit
        stallSet := if w = .stall then addMember (s.notice o).stallSet st else (s.notice o).stallSet
        resumeSet := if w = .resume then addMember (s.notice o).resumeSet st else (s.notice o).resumeSet
        skipSet := if w = .skip then addMember (s.notice o).skipSet st else (s.notice o).skipSet
        drainedSet := if w = .drained then addMember (s.notice o).drainedSet st else (s.notice o).drainedSet
        lineAsserted := decide (addMember (s.notice o).flags w.bit &&& (s.notice o).mask ≠ 0#11) }) ∧
    (∀ b c : Fin 11, hasMember (addMember (s.notice p).flags b) c =
      (decide (b = c) || hasMember (s.notice p).flags c))

/-- R158, R160, R161: the notice unit's commands. -/
def Obligations.NoticeCommandsReadMaskAndWatch : Prop :=
  ∀ (p : Port) (mask : Word16) (stream : Byte) (compare : Word32) (s : State) (u : NoticeUnit),
    s.inReset = none → u = s.notice p →
    exec (.readNotices p) s =
      .next ((s.setNotice p ⟨0, 0, 0, 0, 0, u.mask, u.watch, false⟩).acked p
        (be16 (u.flags.setWidth 16) ++ [u.stallSet, u.resumeSet, u.skipSet, u.drainedSet] ++
          be16 (u.mask.setWidth 16) ++
          match u.watch with
          | none => [0, 0, 0, 0, 0, 0]
          | some w => [1, BitVec.ofNat 8 w.stream.val] ++ be32 w.compare)) ∧
    (2048 ≤ mask.toNat → exec (.setMask p mask) s = .next (s.refusedWith p .badArg)) ∧
    (mask.toNat < 2048 → exec (.setMask p mask) s =
      .next ((s.setNotice p
        { u with
          mask := mask.setWidth 11
          lineAsserted := decide (u.flags &&& mask.setWidth 11 ≠ 0#11) }).acked p [])) ∧
    (8 ≤ stream.toNat → exec (.setWatch p stream compare) s = .next (s.refusedWith p .badArg)) ∧
    (∀ st : StreamNo, stream.toNat = st.val → exec (.setWatch p stream compare) s =
      .next ((s.setNotice p { u with watch := some ⟨st, compare⟩ }).acked p
        (match (s.stream st).lastSequence with
          | none => [0, 0, 0, 0, 0]
          | some q => 1 :: be32 q))) ∧
    exec (.clearWatch p) s = .next ((s.setNotice p { u with watch := none }).acked p [])

/-- R156, R158, R164: a flag, and a stream in a stream set, stay until READ_NOTICES of the port, its port
reset or a reset of the part. -/
def Obligations.NoticesStayUntilRead : Prop :=
  ∀ (c : Instr) (s t : State) (p : Port) (b : Fin 11) (st : StreamNo), exec c s = .next t → ¬ isReset c →
    c ≠ .readNotices p → c ≠ .resetPort p →
    (hasMember (s.notice p).flags b = true → hasMember (t.notice p).flags b = true) ∧
    (hasMember (s.notice p).stallSet st = true → hasMember (t.notice p).stallSet st = true) ∧
    (hasMember (s.notice p).resumeSet st = true → hasMember (t.notice p).resumeSet st = true) ∧
    (hasMember (s.notice p).skipSet st = true → hasMember (t.notice p).skipSet st = true) ∧
    (hasMember (s.notice p).drainedSet st = true → hasMember (t.notice p).drainedSet st = true)

/-! ### What every step keeps -/

/-- R38, R130, R135, R137: a locked pattern entry changes at a power-on reset alone; a locked stream keeps its
settings and stays open, and a locked egress keeps its settings, until a reset of the part. -/
def Obligations.LockedRecordsKeepTheirSettings : Prop :=
  ∀ (s t : State), step s = .next t →
    (s.pending.head? ≠ some .powerOnReset → ∀ e : EntryNo, (s.pattern e).lock = true →
      t.pattern e = s.pattern e) ∧
    (s.pending.head? ≠ some .powerOnReset → s.pending.head? ≠ some .partReset →
      (∀ st : StreamNo, (s.stream st).lock = true → (s.stream st).state.isOpen = true →
        (t.stream st).lock = true ∧ (t.stream st).state.isOpen = true ∧
          (t.stream st).owner = (s.stream st).owner ∧ (t.stream st).binding = (s.stream st).binding ∧
          (t.stream st).mode = (s.stream st).mode ∧ (t.stream st).quota = (s.stream st).quota ∧
          (t.stream st).expectedLines = (s.stream st).expectedLines ∧
          (t.stream st).stallTimeout = (s.stream st).stallTimeout) ∧
      ∀ p : Port, (s.egress p).lock = true →
        (t.egress p).lock = true ∧ (t.egress p).tracking = (s.egress p).tracking ∧
          (t.egress p).window = (s.egress p).window ∧ (t.egress p).frozen = (s.egress p).frozen ∧
          (t.egress p).stallAction = (s.egress p).stallAction ∧
          (t.egress p).fallbackEntry = (s.egress p).fallbackEntry ∧
          (t.egress p).fillWord = (s.egress p).fillWord ∧
          ((t.egress p).source = (s.egress p).source ∨ (t.egress p).source = .none))

/-- R155, R156: the interrupt line agrees with flags and mask, and each OWN flag with its stream set. -/
def Obligations.StepKeepsNoticesAgree : Prop :=
  ∀ s t : State, NoticesAgree s → step s = .next t → NoticesAgree t

/-- R1, R2, R4, R9, R10, R12: every page record stays well kept, the free list holds each FREE page once and
no other, and the frame store keeps its canonical form. -/
def Obligations.StepKeepsThePoolWellKept : Prop :=
  ∀ s t : State, PagesWellKept s → FreeListExact s → Memory.wf s.frameStore → step s = .next t →
    PagesWellKept t ∧ FreeListExact t ∧ Memory.wf t.frameStore

/-- R27: the committed quotas never sum to more than 16, and every quota stays 1 to 8. -/
def Obligations.StepKeepsCommitmentsWithinThePool : Prop :=
  ∀ s t : State, CommitmentsFit s → step s = .next t → CommitmentsFit t

/-- R25, R26, R45, R114, R124: bindings, owners, subscriptions and leaders stay in their relations. -/
def Obligations.StepKeepsBindingsAndSubscriptions : Prop :=
  ∀ s t : State, BindingsAgree s → SubscriptionsExact s → NoFollowerChain s → step s = .next t →
    BindingsAgree t ∧ SubscriptionsExact t ∧ NoFollowerChain t

/-- R95 to R99, R108, R113, R114, R134, R137: every egress and every pattern stays in its ranges. -/
def Obligations.StepKeepsEgressesAndPatternsInRange : Prop :=
  ∀ s t : State, EgressesWellKept s → PatternsInRange s → step s = .next t →
    EgressesWellKept t ∧ PatternsInRange t

/-- R172: every packet an egress sends passes the checks of the lane format. -/
def Obligations.StepKeepsLanePacketsGood : Prop :=
  ∀ s t : State, PagesWellKept s → EgressesWellKept s → LanePacketsGood s → step s = .next t → LanePacketsGood t

/-- R3, R4, R12, R22, R26, R27, R36, R53, R73, R114: the shared state stays coherent. -/
def Obligations.StepKeepsCoherence : Prop :=
  ∀ s t : State, Coherent s → step s = .next t → Coherent t

/-- The state after reset meets every invariant above. -/
def Obligations.ResetStateMeetsTheInvariants : Prop :=
  Coherent State.reset ∧ NoticesAgree State.reset ∧ PatternsInRange State.reset ∧
    LanePacketsGood State.reset ∧ Memory.wf State.reset.frameStore

/-- R7: in a coherent state the free list is not empty when an allocation is presented: a stream whose page
count is below its quota finds a page. R86 to R89, R15, R16, R37: what gives pages back to it: an evaluation of
the release rules frees the listed pages that the rule calls for and no one holds, oldest first, keeps every
other page, and ends a drain that it leaves without pages. -/
def Obligations.AllocationAlwaysFindsAPage : Prop :=
  (∀ (s : State) (st : StreamNo), Coherent s → (s.stream st).state ≠ .closed →
    pageCount s st < (s.stream st).quota → s.freeList ≠ []) ∧
  ∀ (s t : State) (st : StreamNo) (r : Stream), StreamPagesExact s st → r = s.stream st →
    t = evaluateRelease st s →
    t.stream st =
      { r with
        ready := r.ready.filter fun e => !decide (EvaluationFrees s st e)
        reclaimed := r.reclaimed + BitVec.ofNat 32 (r.ready.countP fun e =>
          decide (EvaluationFrees s st e) && !(s.page e.page).viewed)
        state := if r.state = .draining ∧ pageCount t st = 0 then .closed else r.state
        owner := if r.state = .draining ∧ pageCount t st = 0 then none else r.owner } ∧
    (∀ g : PageNo, t.page g =
      if r.ready.any (fun e => decide (e.page = g) && decide (EvaluationFrees s st e)) then Page.cleared
      else s.page g) ∧
    t.freeList = s.freeList ++
      (r.ready.filter fun e => decide (EvaluationFrees s st e)).map ReadyEntry.page ∧
    (r.state = .draining → pageCount t st = 0 → ∀ o : Port, r.owner = some o →
      hasMember (t.notice o).flags 3 = true ∧ hasMember (t.notice o).drainedSet st = true) ∧
    (r.state ≠ .draining ∨ pageCount t st ≠ 0 → t.notices = s.notices) ∧
    (∀ n : StreamNo, n ≠ st → t.stream n = s.stream n) ∧ t.egresses = s.egresses ∧ t.captures = s.captures ∧
    t.pins = s.pins ∧ t.patterns = s.patterns ∧ t.frameStore = s.frameStore ∧ t.timeBase = s.timeBase

end
end

