-- ==== Sys2Proof/Laws/Memory.lean ====
section
/-! SUPPORT. The frame store: what a write changes, and that every operation keeps the canonical form. -/

namespace Sys2Proof.Machine

/-- An empty store is canonical. -/
theorem Memory.wf_nil : Memory.wf [] := ⟨.nil, by simp⟩

/-- The store of State.reset is canonical. -/
theorem Memory.wf_reset : Memory.wf State.reset.frameStore := Memory.wf_nil

/-- The rest of a canonical store is canonical. -/
theorem Memory.wf_tail {c : Host.Cell} {m : Memory} (h : Memory.wf (c :: m)) : Memory.wf m :=
  ⟨(List.pairwise_cons.1 h.1).2, fun d hd => h.2 d (List.mem_cons_of_mem _ hd)⟩

/-- A cell lower than every cell of a canonical store may be put before it. -/
theorem Memory.wf_cons {c : Host.Cell} {m : Memory} (hm : Memory.wf m) (hlow : ∀ d ∈ m, c.1 < d.1)
    (hc : c.2 ≠ Config.unwrittenByte) : Memory.wf (c :: m) :=
  ⟨List.pairwise_cons.2 ⟨hlow, hm.1⟩, fun d hd => (List.mem_cons.1 hd).elim (fun e => e ▸ hc) (hm.2 d)⟩

/-- Every cell after a write is the written one or one of before. -/
theorem Memory.mem_write {m : Memory} {a : Nat} {v : Byte} {d : Host.Cell} (h : d ∈ Memory.write m a v) :
    d = (a, v) ∨ d ∈ m := by
  induction m with
  | nil => simp only [Memory.write] at h; split at h <;> simp_all
  | cons c rest ih =>
    simp only [Memory.write] at h
    split_ifs at h <;> simp only [List.mem_cons] at h ⊢ <;> tauto

/-- A write keeps the canonical form. -/
theorem Memory.wf_write {m : Memory} (a : Nat) (v : Byte) (h : Memory.wf m) : Memory.wf (Memory.write m a v) := by
  induction m with
  | nil =>
    simp only [Memory.write]
    split
    · exact Memory.wf_nil
    · exact Memory.wf_cons Memory.wf_nil (by simp) ‹_›
  | cons c rest ih =>
    have hlow : ∀ d ∈ rest, c.1 < d.1 := (List.pairwise_cons.1 h.1).1
    have htail := Memory.wf_tail h
    have hc : c.2 ≠ Config.unwrittenByte := h.2 c (List.mem_cons_self ..)
    simp only [Memory.write]
    split_ifs with h1 h2 h3 h4
    · exact h
    · refine Memory.wf_cons h (fun d hd => ?_) h2
      rcases List.mem_cons.1 hd with rfl | hd
      · exact h1
      · exact h1.trans (hlow d hd)
    · exact htail
    · exact Memory.wf_cons htail (fun d hd => h3 ▸ hlow d hd) h4
    · refine Memory.wf_cons (ih htail) (fun d hd => ?_) hc
      rcases Memory.mem_write hd with rfl | hd
      · omega
      · exact hlow d hd

/-- Writing consecutive bytes keeps the canonical form. -/
theorem Memory.wf_writeAll (bs : List Byte) (m : Memory) (a : Nat) (h : Memory.wf m) :
    Memory.wf (Memory.writeAll m a bs) := by
  induction bs generalizing m a with
  | nil => exact h
  | cons b rest ih => exact ih _ _ (Memory.wf_write a b h)

/-- Below every listed address the store reads as unwritten. -/
theorem Memory.read_below {m : Memory} {a : Nat} (h : ∀ d ∈ m, a < d.1) :
    Memory.read m a = Config.unwrittenByte := by
  induction m with
  | nil => rfl
  | cons c rest ih =>
    have : c.1 ≠ a := (h c (List.mem_cons_self ..)).ne'
    simp [Memory.read, this, ih fun d hd => h d (List.mem_cons_of_mem _ hd)]

/-- What one byte reads as after a write, in a canonical store. -/
theorem Memory.read_write {m : Memory} (h : Memory.wf m) (a b : Nat) (v : Byte) :
    Memory.read (Memory.write m a v) b = if b = a then v else Memory.read m b := by
  induction m with
  | nil =>
    by_cases hv : v = Config.unwrittenByte <;> by_cases hb : b = a <;>
      simp [Memory.write, Memory.read, hv, hb, eq_comm]
    exact fun e => absurd e.symm hb
  | cons c rest ih =>
    have hlow : ∀ d ∈ rest, c.1 < d.1 := (List.pairwise_cons.1 h.1).1
    have hrest := ih (Memory.wf_tail h)
    have below : a < c.1 → Memory.read (c :: rest) a = Config.unwrittenByte := fun hlt =>
      Memory.read_below fun d hd => (List.mem_cons.1 hd).elim (fun e => e ▸ hlt) fun hd => hlt.trans (hlow d hd)
    have gone : Memory.read rest c.1 = Config.unwrittenByte := Memory.read_below hlow
    simp only [Memory.write]
    by_cases hb : b = a
    · subst hb
      split_ifs <;> simp_all [Memory.read]
      omega
    · simp only [hb, if_false]
      split_ifs <;> simp_all [Memory.read, eq_comm]

/-- What one byte reads as after consecutive bytes were written from `a` upwards. -/
theorem Memory.read_writeAll (bs : List Byte) (m : Memory) (h : Memory.wf m) (a b : Nat) :
    Memory.read (Memory.writeAll m a bs) b =
      if a ≤ b ∧ b < a + bs.length then bs.getD (b - a) 0 else Memory.read m b := by
  induction bs generalizing m a with
  | nil => simp only [Memory.writeAll, List.length_nil]; split_ifs <;> first | rfl | omega
  | cons v rest ih =>
    simp only [Memory.writeAll, List.length_cons]
    rw [ih _ (Memory.wf_write a v h), Memory.read_write h]
    by_cases hab : b = a
    · subst hab; simp
    · by_cases hin : a + 1 ≤ b ∧ b < a + 1 + rest.length
      · have : b - a = (b - (a + 1)) + 1 := by omega
        rw [if_pos hin, if_pos (by omega), this]; rfl
      · rw [if_neg hin, if_neg hab, if_neg (by omega)]

end Sys2Proof.Machine
end

