-- ==== Sys2Proof/Laws/Outcomes.lean ====
section
/-! SUPPORT. When the part takes an event, and what a command puts on its link: the lemmas that every
meaning is read through. -/

namespace Sys2Proof.Machine

theorem outOfReset_taken {s : State} (h : s.inReset = none) (t : State) : outOfReset s t = .next t := by
  simp [outOfReset, h]

theorem outOfReset_inReset {s : State} (h : s.inReset.isSome = true) (t : State) : outOfReset s t = .next s := by
  simp [outOfReset, h]

/-- An event of the part leaves its state or the one it was taken with. -/
theorem outOfReset_cases {s t u : State} (h : outOfReset s t = .next u) :
    (s.inReset.isSome = true ∧ u = s) ∨ (s.inReset = none ∧ u = t) := by
  unfold outOfReset at h
  split at h
  · cases h; exact .inl ⟨‹_›, rfl⟩
  · cases h; exact .inr ⟨Option.not_isSome_iff_eq_none.1 ‹¬_›, rfl⟩

theorem onLane_taken {p : Port} {s : State} (h : s.inReset = none) (hup : (s.capture p).laneUp = true) (t : State) :
    onLane p s t = .next t := by simp [onLane, outOfReset, h, hup]

theorem onLane_down {p : Port} {s : State} (hdown : (s.capture p).laneUp = false) (t : State) :
    onLane p s t = .next s := by
  unfold onLane outOfReset; split <;> simp_all

/-- A packet leaves the state it found or the one it was taken with. -/
theorem onLane_cases {p : Port} {s t u : State} (h : onLane p s t = .next u) :
    u = s ∨ (s.inReset = none ∧ (s.capture p).laneUp = true ∧ u = t) := by
  rcases outOfReset_cases h with ⟨_, rfl⟩ | ⟨hn, rfl⟩
  · exact .inl rfl
  · split
    · exact .inr ⟨hn, ‹_›, rfl⟩
    · exact .inl rfl

theorem onLink_taken {p : Port} {s : State} (h : s.inReset = none) (r : CommandResult) :
    onLink p s r = answered p s r := by simp [onLink, h]

theorem onLink_inReset {p : Port} {s : State} (h : s.inReset.isSome = true) (r : CommandResult) :
    onLink p s r = .next s := by simp [onLink, h]

@[simp] theorem answered_refuse (p : Port) (s : State) (st : Status) :
    answered p s (.refuse st) = .next (s.setLink p (some (Answer.refusal st))) := rfl

@[simp] theorem answered_done (p : Port) (s t : State) (a : Answer) :
    answered p s (.done t a) = .next (t.setLink p (some a)) := rfl

@[simp] theorem answered_ok (p : Port) (s t : State) (b : List Byte) :
    answered p s (.ok t b) = .next (t.setLink p (some (Answer.ok b))) := rfl

@[simp] theorem answered_stop (p : Port) (s : State) (f : Fault) : answered p s (.stop f) = .fault f := rfl

/-- A command on a link leaves the state it found, a refusal on it, or the state it was taken with and its
answer. -/
theorem onLink_cases {p : Port} {s u : State} {r : CommandResult} (h : onLink p s r = .next u) :
    (s.inReset.isSome = true ∧ u = s) ∨
      (s.inReset = none ∧ ((∃ st, r = .refuse st ∧ u = s.setLink p (some (Answer.refusal st))) ∨
        ∃ t a, r = .done t a ∧ u = t.setLink p (some a))) := by
  unfold onLink at h
  split at h
  · cases h; exact .inl ⟨‹_›, rfl⟩
  · refine .inr ⟨Option.not_isSome_iff_eq_none.1 ‹¬_›, ?_⟩
    cases r with
    | refuse st => cases h; exact .inl ⟨st, rfl, rfl⟩
    | done t a => cases h; exact .inr ⟨t, a, rfl, rfl⟩
    | stop f => cases h

/-- A step with a command in front is the command on the rest. -/
theorem step_front {s : State} {c : Instr} {rest : List Instr} (h : s.pending = c :: rest) :
    step s = exec c { s with pending := rest } := by simp [step, h]

/-- A step on an empty queue idles. -/
theorem step_empty {s : State} (h : s.pending = []) : step s = .next s := by simp [step, h]

end Sys2Proof.Machine
end

