-- ==== Sys2Proof/Laws/PerInstr.lean ====
section
/-! SUPPORT. Family Wire: every command of the command table is sent with a code of the table and the
argument length the table gives for it (10.5, R167); a row that is no command of the table is not sent. One
lemma per constructor of Instr. -/

namespace Sys2Proof.Laws.Wire

/-- What the link interface tests first holds of the bytes the command is sent with. -/
def Statement (i : Instr) : Prop :=
  ∀ p code args, encodeCommand i = some (p, code, args) →
    args.length ≤ 255 ∧ inCommandTable code args.length = true

/-- The commands whose encoding is known are in the table when their code and length are. -/
theorem statement_of_encoding {i : Instr} {p : Port} {code : Byte} {args : List Byte} {n : Nat}
    (h : encodeCommand i = some (p, code, args)) (hn : args.length = n) (hs : n ≤ 255)
    (ht : inCommandTable code n = true) : Statement i := by
  intro p' code' args' h'
  rw [h] at h'
  cases h'
  exact ⟨hn ▸ hs, hn ▸ ht⟩

theorem readId (port : Port) : Statement (.readId port) :=
  statement_of_encoding (n := 0) rfl rfl (by decide) (by decide)

theorem readTime (port : Port) : Statement (.readTime port) :=
  statement_of_encoding (n := 0) rfl rfl (by decide) (by decide)

theorem resetPort (port : Port) : Statement (.resetPort port) :=
  statement_of_encoding (n := 0) rfl rfl (by decide) (by decide)

theorem openStream (port : Port) (stream producer tag mode quota : Byte) (lines timeout : Word16) : Statement (.openStream port stream producer tag mode quota lines timeout) :=
  statement_of_encoding (n := 9) rfl (by simp [be16]) (by decide) (by decide)

theorem setStream (port : Port) (stream quota : Byte) (lines timeout : Word16) : Statement (.setStream port stream quota lines timeout) :=
  statement_of_encoding (n := 6) rfl (by simp [be16]) (by decide) (by decide)

theorem closeStream (port : Port) (stream : Byte) : Statement (.closeStream port stream) :=
  statement_of_encoding (n := 1) rfl rfl (by decide) (by decide)

theorem lockStream (port : Port) (stream : Byte) : Statement (.lockStream port stream) :=
  statement_of_encoding (n := 1) rfl rfl (by decide) (by decide)

theorem queryStream (port : Port) (stream : Byte) : Statement (.queryStream port stream) :=
  statement_of_encoding (n := 1) rfl rfl (by decide) (by decide)

theorem setTiming (port : Port) (linePeriod active : Word16) (backPorch frontPorch : Byte) (total lineBytes : Word16) (tag : Byte) : Statement (.setTiming port linePeriod active backPorch frontPorch total lineBytes tag) :=
  statement_of_encoding (n := 11) rfl (by simp [be16]) (by decide) (by decide)

theorem startEgress (port : Port) : Statement (.startEgress port) :=
  statement_of_encoding (n := 0) rfl rfl (by decide) (by decide)

theorem stopEgress (port : Port) : Statement (.stopEgress port) :=
  statement_of_encoding (n := 0) rfl rfl (by decide) (by decide)

theorem setTracking (port : Port) (mode window : Byte) : Statement (.setTracking port mode window) :=
  statement_of_encoding (n := 2) rfl rfl (by decide) (by decide)

theorem trackNow (port : Port) : Statement (.trackNow port) :=
  statement_of_encoding (n := 0) rfl rfl (by decide) (by decide)

theorem subscribe (port : Port) (stream : Byte) : Statement (.subscribe port stream) :=
  statement_of_encoding (n := 1) rfl rfl (by decide) (by decide)

theorem follow (port : Port) (leader : Byte) : Statement (.follow port leader) :=
  statement_of_encoding (n := 1) rfl rfl (by decide) (by decide)

theorem detach (port : Port) : Statement (.detach port) :=
  statement_of_encoding (n := 0) rfl rfl (by decide) (by decide)

theorem freeze (port : Port) : Statement (.freeze port) :=
  statement_of_encoding (n := 0) rfl rfl (by decide) (by decide)

theorem thaw (port : Port) : Statement (.thaw port) :=
  statement_of_encoding (n := 0) rfl rfl (by decide) (by decide)

theorem setFallback (port : Port) (action entry : Byte) (fill : Vector Byte 4) : Statement (.setFallback port action entry fill) :=
  statement_of_encoding (n := 6) rfl (by simp) (by decide) (by decide)

theorem lockEgress (port : Port) : Statement (.lockEgress port) :=
  statement_of_encoding (n := 0) rfl rfl (by decide) (by decide)

theorem queryEgress (port : Port) (target : Byte) : Statement (.queryEgress port target) :=
  statement_of_encoding (n := 1) rfl rfl (by decide) (by decide)

theorem pinPage (port : Port) (page : Byte) : Statement (.pinPage port page) :=
  statement_of_encoding (n := 1) rfl rfl (by decide) (by decide)

theorem pinNewest (port : Port) (stream : Byte) : Statement (.pinNewest port stream) :=
  statement_of_encoding (n := 1) rfl rfl (by decide) (by decide)

theorem unpin (port : Port) : Statement (.unpin port) :=
  statement_of_encoding (n := 0) rfl rfl (by decide) (by decide)

theorem readLine (port : Port) (selector : Byte) (index offset count : Word16) : Statement (.readLine port selector index offset count) :=
  statement_of_encoding (n := 7) rfl (by simp [be16]) (by decide) (by decide)

theorem readMeta (port : Port) (selector : Byte) : Statement (.readMeta port selector) :=
  statement_of_encoding (n := 1) rfl rfl (by decide) (by decide)

theorem queryPage (port : Port) (page : Byte) : Statement (.queryPage port page) :=
  statement_of_encoding (n := 1) rfl rfl (by decide) (by decide)

theorem queryIngress (port : Port) (target : Byte) : Statement (.queryIngress port target) :=
  statement_of_encoding (n := 1) rfl rfl (by decide) (by decide)

theorem writePattern (port : Port) (entry kind blockSize barCount : Byte) (barWidth : Word16) (colours : Vector Byte 16) : Statement (.writePattern port entry kind blockSize barCount barWidth colours) :=
  statement_of_encoding (n := 22) rfl (by simp [be16]) (by decide) (by decide)

theorem lockPattern (port : Port) (entry : Byte) : Statement (.lockPattern port entry) :=
  statement_of_encoding (n := 1) rfl rfl (by decide) (by decide)

theorem readPattern (port : Port) (entry : Byte) : Statement (.readPattern port entry) :=
  statement_of_encoding (n := 1) rfl rfl (by decide) (by decide)

theorem readNotices (port : Port) : Statement (.readNotices port) :=
  statement_of_encoding (n := 0) rfl rfl (by decide) (by decide)

theorem setMask (port : Port) (mask : Word16) : Statement (.setMask port mask) :=
  statement_of_encoding (n := 2) rfl rfl (by decide) (by decide)

theorem setWatch (port : Port) (stream : Byte) (compare : Word32) : Statement (.setWatch port stream compare) :=
  statement_of_encoding (n := 5) rfl (by simp [be32]) (by decide) (by decide)

theorem clearWatch (port : Port) : Statement (.clearWatch port) :=
  statement_of_encoding (n := 0) rfl rfl (by decide) (by decide)

theorem badCommand (port : Port) : Statement (.badCommand port) :=
  fun _ _ _ h => nomatch h

theorem transactionDiscarded (port : Port) : Statement (.transactionDiscarded port) :=
  fun _ _ _ h => nomatch h

theorem frameStart (port : Port) (tag : Tag) (kind : Byte) (frameNumber : Word16) : Statement (.frameStart port tag kind frameNumber) :=
  fun _ _ _ h => nomatch h

theorem line (port : Port) (tag : Tag) (number : Word16) (payload : List Byte) (check : Word16) : Statement (.line port tag number payload check) :=
  fun _ _ _ h => nomatch h

theorem sideband (port : Port) (tag : Tag) (payload : List Byte) (check : Word16) : Statement (.sideband port tag payload check) :=
  fun _ _ _ h => nomatch h

theorem frameEnd (port : Port) (tag : Tag) (status : Byte) (claimed : Word16) : Statement (.frameEnd port tag status claimed) :=
  fun _ _ _ h => nomatch h

theorem formatError (port : Port) : Statement (.formatError port) :=
  fun _ _ _ h => nomatch h

theorem laneDown (port : Port) : Statement (.laneDown port) :=
  fun _ _ _ h => nomatch h

theorem laneUp (port : Port) : Statement (.laneUp port) :=
  fun _ _ _ h => nomatch h

theorem stallTimerExpiry (stream : StreamNo) : Statement (.stallTimerExpiry stream) :=
  fun _ _ _ h => nomatch h

theorem flip (port : Port) : Statement (.flip port) :=
  fun _ _ _ h => nomatch h

theorem egressLine (port : Port) : Statement (.egressLine port) :=
  fun _ _ _ h => nomatch h

theorem powerOnReset : Statement .powerOnReset :=
  fun _ _ _ h => nomatch h

theorem partReset : Statement .partReset :=
  fun _ _ _ h => nomatch h

theorem resetEnd : Statement .resetEnd :=
  fun _ _ _ h => nomatch h

theorem cfgholdChange (asserted : Bool) : Statement (.cfgholdChange asserted) :=
  fun _ _ _ h => nomatch h

theorem timeBaseTick (microseconds : Nat) : Statement (.timeBaseTick microseconds) :=
  fun _ _ _ h => nomatch h

end Sys2Proof.Laws.Wire
end

