-- ==== Sys2Proof/Laws/State.lean ====
section
/-! SUPPORT. One lemma for each field or record read after each update of State, so that no later proof
unfolds a record update or a table. -/

namespace Sys2Proof

/-- An entry read after the same entry was replaced. -/
@[simp] theorem Table.get_put_self {α : Type} {n : Nat} (t : Vector α n) (i : Fin n) (a : α) :
    Table.get (Table.put t i a) i = a := by simp [Table.get, Table.put]

/-- Another entry read after an entry was replaced. -/
theorem Table.get_put_ne {α : Type} {n : Nat} (t : Vector α n) {i j : Fin n} (a : α) (h : i ≠ j) :
    Table.get (Table.put t i a) j = Table.get t j := by
  have : i.val ≠ j.val := fun e => h (Fin.ext e)
  simp [Table.get, Table.put, this]

/-- An entry read after any entry was replaced. -/
theorem Table.get_put {α : Type} {n : Nat} (t : Vector α n) (i j : Fin n) (a : α) :
    Table.get (Table.put t i a) j = if i = j then a else Table.get t j := by
  by_cases h : i = j
  · subst h; simp
  · simp [h, Table.get_put_ne t a h]

/-- An entry read after a function was applied to all. -/
@[simp] theorem Table.get_map {α β : Type} {n : Nat} (f : α → β) (t : Vector α n) (i : Fin n) :
    Table.get (Table.map f t) i = f (Table.get t i) := by
  simp [Table.get, Table.map]

/-- An entry of a table of equal entries. -/
@[simp] theorem Table.get_replicate {α : Type} {n : Nat} (a : α) (i : Fin n) :
    Table.get (Vector.replicate n a) i = a := by simp [Table.get]

/-- Two tables with the same entries are equal. -/
theorem Table.ext {α : Type} {n : Nat} {t u : Vector α n} (h : ∀ i, Table.get t i = Table.get u i) :
    t = u := Vector.ext fun i hi => h ⟨i, hi⟩

/-- Replacing an entry by itself. -/
@[simp] theorem Table.put_get {α : Type} {n : Nat} (t : Vector α n) (i : Fin n) :
    Table.put t i (Table.get t i) = t := by
  refine Table.ext fun j => ?_
  rw [Table.get_put]
  split <;> simp_all

namespace Machine

/-! ### setPage -/

@[simp] theorem State.setPage_inReset (s : State) (i : PageNo) (r : Page) : (s.setPage i r).inReset = s.inReset := rfl
@[simp] theorem State.setPage_cfgHold (s : State) (i : PageNo) (r : Page) : (s.setPage i r).cfgHold = s.cfgHold := rfl
@[simp] theorem State.setPage_timeBase (s : State) (i : PageNo) (r : Page) : (s.setPage i r).timeBase = s.timeBase := rfl
@[simp] theorem State.setPage_frameStore (s : State) (i : PageNo) (r : Page) : (s.setPage i r).frameStore = s.frameStore := rfl
@[simp] theorem State.setPage_freeList (s : State) (i : PageNo) (r : Page) : (s.setPage i r).freeList = s.freeList := rfl
@[simp] theorem State.setPage_streams (s : State) (i : PageNo) (r : Page) : (s.setPage i r).streams = s.streams := rfl
@[simp] theorem State.setPage_captures (s : State) (i : PageNo) (r : Page) : (s.setPage i r).captures = s.captures := rfl
@[simp] theorem State.setPage_egresses (s : State) (i : PageNo) (r : Page) : (s.setPage i r).egresses = s.egresses := rfl
@[simp] theorem State.setPage_pins (s : State) (i : PageNo) (r : Page) : (s.setPage i r).pins = s.pins := rfl
@[simp] theorem State.setPage_patterns (s : State) (i : PageNo) (r : Page) : (s.setPage i r).patterns = s.patterns := rfl
@[simp] theorem State.setPage_notices (s : State) (i : PageNo) (r : Page) : (s.setPage i r).notices = s.notices := rfl
@[simp] theorem State.setPage_links (s : State) (i : PageNo) (r : Page) : (s.setPage i r).links = s.links := rfl
@[simp] theorem State.setPage_pending (s : State) (i : PageNo) (r : Page) : (s.setPage i r).pending = s.pending := rfl
@[simp] theorem State.setPage_stream (s : State) (i : PageNo) (r : Page) (j : StreamNo) :
    (s.setPage i r).stream j = s.stream j := rfl
@[simp] theorem State.setPage_capture (s : State) (i : PageNo) (r : Page) (j : Port) :
    (s.setPage i r).capture j = s.capture j := rfl
@[simp] theorem State.setPage_egress (s : State) (i : PageNo) (r : Page) (j : Port) :
    (s.setPage i r).egress j = s.egress j := rfl
@[simp] theorem State.setPage_pin (s : State) (i : PageNo) (r : Page) (j : Port) :
    (s.setPage i r).pin j = s.pin j := rfl
@[simp] theorem State.setPage_pattern (s : State) (i : PageNo) (r : Page) (j : EntryNo) :
    (s.setPage i r).pattern j = s.pattern j := rfl
@[simp] theorem State.setPage_notice (s : State) (i : PageNo) (r : Page) (j : Port) :
    (s.setPage i r).notice j = s.notice j := rfl
@[simp] theorem State.setPage_link (s : State) (i : PageNo) (r : Page) (j : Port) :
    (s.setPage i r).link j = s.link j := rfl
@[simp] theorem State.setPage_context (s : State) (i : PageNo) (r : Page) (p : Port) (t : Tag) :
    (s.setPage i r).context p t = s.context p t := rfl
@[simp] theorem State.setPage_page_self (s : State) (i : PageNo) (r : Page) : (s.setPage i r).page i = r := Table.get_put_self ..
theorem State.setPage_page (s : State) (i : PageNo) (r : Page) (j : PageNo) :
    (s.setPage i r).page j = if i = j then r else s.page j := Table.get_put ..
theorem State.setPage_page_ne (s : State) (r : Page) {i j : PageNo} (h : i ≠ j) : (s.setPage i r).page j = s.page j :=
  Table.get_put_ne _ _ h
@[simp] theorem State.setPage_same (s : State) (i : PageNo) : s.setPage i (s.page i) = s := by
  simp [State.setPage, State.page]

/-! ### setStream -/

@[simp] theorem State.setStream_inReset (s : State) (i : StreamNo) (r : Stream) : (s.setStream i r).inReset = s.inReset := rfl
@[simp] theorem State.setStream_cfgHold (s : State) (i : StreamNo) (r : Stream) : (s.setStream i r).cfgHold = s.cfgHold := rfl
@[simp] theorem State.setStream_timeBase (s : State) (i : StreamNo) (r : Stream) : (s.setStream i r).timeBase = s.timeBase := rfl
@[simp] theorem State.setStream_frameStore (s : State) (i : StreamNo) (r : Stream) : (s.setStream i r).frameStore = s.frameStore := rfl
@[simp] theorem State.setStream_pages (s : State) (i : StreamNo) (r : Stream) : (s.setStream i r).pages = s.pages := rfl
@[simp] theorem State.setStream_freeList (s : State) (i : StreamNo) (r : Stream) : (s.setStream i r).freeList = s.freeList := rfl
@[simp] theorem State.setStream_captures (s : State) (i : StreamNo) (r : Stream) : (s.setStream i r).captures = s.captures := rfl
@[simp] theorem State.setStream_egresses (s : State) (i : StreamNo) (r : Stream) : (s.setStream i r).egresses = s.egresses := rfl
@[simp] theorem State.setStream_pins (s : State) (i : StreamNo) (r : Stream) : (s.setStream i r).pins = s.pins := rfl
@[simp] theorem State.setStream_patterns (s : State) (i : StreamNo) (r : Stream) : (s.setStream i r).patterns = s.patterns := rfl
@[simp] theorem State.setStream_notices (s : State) (i : StreamNo) (r : Stream) : (s.setStream i r).notices = s.notices := rfl
@[simp] theorem State.setStream_links (s : State) (i : StreamNo) (r : Stream) : (s.setStream i r).links = s.links := rfl
@[simp] theorem State.setStream_pending (s : State) (i : StreamNo) (r : Stream) : (s.setStream i r).pending = s.pending := rfl
@[simp] theorem State.setStream_page (s : State) (i : StreamNo) (r : Stream) (j : PageNo) :
    (s.setStream i r).page j = s.page j := rfl
@[simp] theorem State.setStream_capture (s : State) (i : StreamNo) (r : Stream) (j : Port) :
    (s.setStream i r).capture j = s.capture j := rfl
@[simp] theorem State.setStream_egress (s : State) (i : StreamNo) (r : Stream) (j : Port) :
    (s.setStream i r).egress j = s.egress j := rfl
@[simp] theorem State.setStream_pin (s : State) (i : StreamNo) (r : Stream) (j : Port) :
    (s.setStream i r).pin j = s.pin j := rfl
@[simp] theorem State.setStream_pattern (s : State) (i : StreamNo) (r : Stream) (j : EntryNo) :
    (s.setStream i r).pattern j = s.pattern j := rfl
@[simp] theorem State.setStream_notice (s : State) (i : StreamNo) (r : Stream) (j : Port) :
    (s.setStream i r).notice j = s.notice j := rfl
@[simp] theorem State.setStream_link (s : State) (i : StreamNo) (r : Stream) (j : Port) :
    (s.setStream i r).link j = s.link j := rfl
@[simp] theorem State.setStream_context (s : State) (i : StreamNo) (r : Stream) (p : Port) (t : Tag) :
    (s.setStream i r).context p t = s.context p t := rfl
@[simp] theorem State.setStream_stream_self (s : State) (i : StreamNo) (r : Stream) : (s.setStream i r).stream i = r := Table.get_put_self ..
theorem State.setStream_stream (s : State) (i : StreamNo) (r : Stream) (j : StreamNo) :
    (s.setStream i r).stream j = if i = j then r else s.stream j := Table.get_put ..
theorem State.setStream_stream_ne (s : State) (r : Stream) {i j : StreamNo} (h : i ≠ j) : (s.setStream i r).stream j = s.stream j :=
  Table.get_put_ne _ _ h
@[simp] theorem State.setStream_same (s : State) (i : StreamNo) : s.setStream i (s.stream i) = s := by
  simp [State.setStream, State.stream]

/-! ### setCapture -/

@[simp] theorem State.setCapture_inReset (s : State) (i : Port) (r : Capture) : (s.setCapture i r).inReset = s.inReset := rfl
@[simp] theorem State.setCapture_cfgHold (s : State) (i : Port) (r : Capture) : (s.setCapture i r).cfgHold = s.cfgHold := rfl
@[simp] theorem State.setCapture_timeBase (s : State) (i : Port) (r : Capture) : (s.setCapture i r).timeBase = s.timeBase := rfl
@[simp] theorem State.setCapture_frameStore (s : State) (i : Port) (r : Capture) : (s.setCapture i r).frameStore = s.frameStore := rfl
@[simp] theorem State.setCapture_pages (s : State) (i : Port) (r : Capture) : (s.setCapture i r).pages = s.pages := rfl
@[simp] theorem State.setCapture_freeList (s : State) (i : Port) (r : Capture) : (s.setCapture i r).freeList = s.freeList := rfl
@[simp] theorem State.setCapture_streams (s : State) (i : Port) (r : Capture) : (s.setCapture i r).streams = s.streams := rfl
@[simp] theorem State.setCapture_egresses (s : State) (i : Port) (r : Capture) : (s.setCapture i r).egresses = s.egresses := rfl
@[simp] theorem State.setCapture_pins (s : State) (i : Port) (r : Capture) : (s.setCapture i r).pins = s.pins := rfl
@[simp] theorem State.setCapture_patterns (s : State) (i : Port) (r : Capture) : (s.setCapture i r).patterns = s.patterns := rfl
@[simp] theorem State.setCapture_notices (s : State) (i : Port) (r : Capture) : (s.setCapture i r).notices = s.notices := rfl
@[simp] theorem State.setCapture_links (s : State) (i : Port) (r : Capture) : (s.setCapture i r).links = s.links := rfl
@[simp] theorem State.setCapture_pending (s : State) (i : Port) (r : Capture) : (s.setCapture i r).pending = s.pending := rfl
@[simp] theorem State.setCapture_page (s : State) (i : Port) (r : Capture) (j : PageNo) :
    (s.setCapture i r).page j = s.page j := rfl
@[simp] theorem State.setCapture_stream (s : State) (i : Port) (r : Capture) (j : StreamNo) :
    (s.setCapture i r).stream j = s.stream j := rfl
@[simp] theorem State.setCapture_egress (s : State) (i : Port) (r : Capture) (j : Port) :
    (s.setCapture i r).egress j = s.egress j := rfl
@[simp] theorem State.setCapture_pin (s : State) (i : Port) (r : Capture) (j : Port) :
    (s.setCapture i r).pin j = s.pin j := rfl
@[simp] theorem State.setCapture_pattern (s : State) (i : Port) (r : Capture) (j : EntryNo) :
    (s.setCapture i r).pattern j = s.pattern j := rfl
@[simp] theorem State.setCapture_notice (s : State) (i : Port) (r : Capture) (j : Port) :
    (s.setCapture i r).notice j = s.notice j := rfl
@[simp] theorem State.setCapture_link (s : State) (i : Port) (r : Capture) (j : Port) :
    (s.setCapture i r).link j = s.link j := rfl
@[simp] theorem State.setCapture_capture_self (s : State) (i : Port) (r : Capture) : (s.setCapture i r).capture i = r := Table.get_put_self ..
theorem State.setCapture_capture (s : State) (i : Port) (r : Capture) (j : Port) :
    (s.setCapture i r).capture j = if i = j then r else s.capture j := Table.get_put ..
theorem State.setCapture_capture_ne (s : State) (r : Capture) {i j : Port} (h : i ≠ j) : (s.setCapture i r).capture j = s.capture j :=
  Table.get_put_ne _ _ h
@[simp] theorem State.setCapture_same (s : State) (i : Port) : s.setCapture i (s.capture i) = s := by
  simp [State.setCapture, State.capture]

/-! ### setEgress -/

@[simp] theorem State.setEgress_inReset (s : State) (i : Port) (r : Egress) : (s.setEgress i r).inReset = s.inReset := rfl
@[simp] theorem State.setEgress_cfgHold (s : State) (i : Port) (r : Egress) : (s.setEgress i r).cfgHold = s.cfgHold := rfl
@[simp] theorem State.setEgress_timeBase (s : State) (i : Port) (r : Egress) : (s.setEgress i r).timeBase = s.timeBase := rfl
@[simp] theorem State.setEgress_frameStore (s : State) (i : Port) (r : Egress) : (s.setEgress i r).frameStore = s.frameStore := rfl
@[simp] theorem State.setEgress_pages (s : State) (i : Port) (r : Egress) : (s.setEgress i r).pages = s.pages := rfl
@[simp] theorem State.setEgress_freeList (s : State) (i : Port) (r : Egress) : (s.setEgress i r).freeList = s.freeList := rfl
@[simp] theorem State.setEgress_streams (s : State) (i : Port) (r : Egress) : (s.setEgress i r).streams = s.streams := rfl
@[simp] theorem State.setEgress_captures (s : State) (i : Port) (r : Egress) : (s.setEgress i r).captures = s.captures := rfl
@[simp] theorem State.setEgress_pins (s : State) (i : Port) (r : Egress) : (s.setEgress i r).pins = s.pins := rfl
@[simp] theorem State.setEgress_patterns (s : State) (i : Port) (r : Egress) : (s.setEgress i r).patterns = s.patterns := rfl
@[simp] theorem State.setEgress_notices (s : State) (i : Port) (r : Egress) : (s.setEgress i r).notices = s.notices := rfl
@[simp] theorem State.setEgress_links (s : State) (i : Port) (r : Egress) : (s.setEgress i r).links = s.links := rfl
@[simp] theorem State.setEgress_pending (s : State) (i : Port) (r : Egress) : (s.setEgress i r).pending = s.pending := rfl
@[simp] theorem State.setEgress_page (s : State) (i : Port) (r : Egress) (j : PageNo) :
    (s.setEgress i r).page j = s.page j := rfl
@[simp] theorem State.setEgress_stream (s : State) (i : Port) (r : Egress) (j : StreamNo) :
    (s.setEgress i r).stream j = s.stream j := rfl
@[simp] theorem State.setEgress_capture (s : State) (i : Port) (r : Egress) (j : Port) :
    (s.setEgress i r).capture j = s.capture j := rfl
@[simp] theorem State.setEgress_pin (s : State) (i : Port) (r : Egress) (j : Port) :
    (s.setEgress i r).pin j = s.pin j := rfl
@[simp] theorem State.setEgress_pattern (s : State) (i : Port) (r : Egress) (j : EntryNo) :
    (s.setEgress i r).pattern j = s.pattern j := rfl
@[simp] theorem State.setEgress_notice (s : State) (i : Port) (r : Egress) (j : Port) :
    (s.setEgress i r).notice j = s.notice j := rfl
@[simp] theorem State.setEgress_link (s : State) (i : Port) (r : Egress) (j : Port) :
    (s.setEgress i r).link j = s.link j := rfl
@[simp] theorem State.setEgress_context (s : State) (i : Port) (r : Egress) (p : Port) (t : Tag) :
    (s.setEgress i r).context p t = s.context p t := rfl
@[simp] theorem State.setEgress_egress_self (s : State) (i : Port) (r : Egress) : (s.setEgress i r).egress i = r := Table.get_put_self ..
theorem State.setEgress_egress (s : State) (i : Port) (r : Egress) (j : Port) :
    (s.setEgress i r).egress j = if i = j then r else s.egress j := Table.get_put ..
theorem State.setEgress_egress_ne (s : State) (r : Egress) {i j : Port} (h : i ≠ j) : (s.setEgress i r).egress j = s.egress j :=
  Table.get_put_ne _ _ h
@[simp] theorem State.setEgress_same (s : State) (i : Port) : s.setEgress i (s.egress i) = s := by
  simp [State.setEgress, State.egress]

/-! ### setPin -/

@[simp] theorem State.setPin_inReset (s : State) (i : Port) (r : Option PageNo) : (s.setPin i r).inReset = s.inReset := rfl
@[simp] theorem State.setPin_cfgHold (s : State) (i : Port) (r : Option PageNo) : (s.setPin i r).cfgHold = s.cfgHold := rfl
@[simp] theorem State.setPin_timeBase (s : State) (i : Port) (r : Option PageNo) : (s.setPin i r).timeBase = s.timeBase := rfl
@[simp] theorem State.setPin_frameStore (s : State) (i : Port) (r : Option PageNo) : (s.setPin i r).frameStore = s.frameStore := rfl
@[simp] theorem State.setPin_pages (s : State) (i : Port) (r : Option PageNo) : (s.setPin i r).pages = s.pages := rfl
@[simp] theorem State.setPin_freeList (s : State) (i : Port) (r : Option PageNo) : (s.setPin i r).freeList = s.freeList := rfl
@[simp] theorem State.setPin_streams (s : State) (i : Port) (r : Option PageNo) : (s.setPin i r).streams = s.streams := rfl
@[simp] theorem State.setPin_captures (s : State) (i : Port) (r : Option PageNo) : (s.setPin i r).captures = s.captures := rfl
@[simp] theorem State.setPin_egresses (s : State) (i : Port) (r : Option PageNo) : (s.setPin i r).egresses = s.egresses := rfl
@[simp] theorem State.setPin_patterns (s : State) (i : Port) (r : Option PageNo) : (s.setPin i r).patterns = s.patterns := rfl
@[simp] theorem State.setPin_notices (s : State) (i : Port) (r : Option PageNo) : (s.setPin i r).notices = s.notices := rfl
@[simp] theorem State.setPin_links (s : State) (i : Port) (r : Option PageNo) : (s.setPin i r).links = s.links := rfl
@[simp] theorem State.setPin_pending (s : State) (i : Port) (r : Option PageNo) : (s.setPin i r).pending = s.pending := rfl
@[simp] theorem State.setPin_page (s : State) (i : Port) (r : Option PageNo) (j : PageNo) :
    (s.setPin i r).page j = s.page j := rfl
@[simp] theorem State.setPin_stream (s : State) (i : Port) (r : Option PageNo) (j : StreamNo) :
    (s.setPin i r).stream j = s.stream j := rfl
@[simp] theorem State.setPin_capture (s : State) (i : Port) (r : Option PageNo) (j : Port) :
    (s.setPin i r).capture j = s.capture j := rfl
@[simp] theorem State.setPin_egress (s : State) (i : Port) (r : Option PageNo) (j : Port) :
    (s.setPin i r).egress j = s.egress j := rfl
@[simp] theorem State.setPin_pattern (s : State) (i : Port) (r : Option PageNo) (j : EntryNo) :
    (s.setPin i r).pattern j = s.pattern j := rfl
@[simp] theorem State.setPin_notice (s : State) (i : Port) (r : Option PageNo) (j : Port) :
    (s.setPin i r).notice j = s.notice j := rfl
@[simp] theorem State.setPin_link (s : State) (i : Port) (r : Option PageNo) (j : Port) :
    (s.setPin i r).link j = s.link j := rfl
@[simp] theorem State.setPin_context (s : State) (i : Port) (r : Option PageNo) (p : Port) (t : Tag) :
    (s.setPin i r).context p t = s.context p t := rfl
@[simp] theorem State.setPin_pin_self (s : State) (i : Port) (r : Option PageNo) : (s.setPin i r).pin i = r := Table.get_put_self ..
theorem State.setPin_pin (s : State) (i : Port) (r : Option PageNo) (j : Port) :
    (s.setPin i r).pin j = if i = j then r else s.pin j := Table.get_put ..
theorem State.setPin_pin_ne (s : State) (r : Option PageNo) {i j : Port} (h : i ≠ j) : (s.setPin i r).pin j = s.pin j :=
  Table.get_put_ne _ _ h
@[simp] theorem State.setPin_same (s : State) (i : Port) : s.setPin i (s.pin i) = s := by
  simp [State.setPin, State.pin]

/-! ### setPattern -/

@[simp] theorem State.setPattern_inReset (s : State) (i : EntryNo) (r : PatternEntry) : (s.setPattern i r).inReset = s.inReset := rfl
@[simp] theorem State.setPattern_cfgHold (s : State) (i : EntryNo) (r : PatternEntry) : (s.setPattern i r).cfgHold = s.cfgHold := rfl
@[simp] theorem State.setPattern_timeBase (s : State) (i : EntryNo) (r : PatternEntry) : (s.setPattern i r).timeBase = s.timeBase := rfl
@[simp] theorem State.setPattern_frameStore (s : State) (i : EntryNo) (r : PatternEntry) : (s.setPattern i r).frameStore = s.frameStore := rfl
@[simp] theorem State.setPattern_pages (s : State) (i : EntryNo) (r : PatternEntry) : (s.setPattern i r).pages = s.pages := rfl
@[simp] theorem State.setPattern_freeList (s : State) (i : EntryNo) (r : PatternEntry) : (s.setPattern i r).freeList = s.freeList := rfl
@[simp] theorem State.setPattern_streams (s : State) (i : EntryNo) (r : PatternEntry) : (s.setPattern i r).streams = s.streams := rfl
@[simp] theorem State.setPattern_captures (s : State) (i : EntryNo) (r : PatternEntry) : (s.setPattern i r).captures = s.captures := rfl
@[simp] theorem State.setPattern_egresses (s : State) (i : EntryNo) (r : PatternEntry) : (s.setPattern i r).egresses = s.egresses := rfl
@[simp] theorem State.setPattern_pins (s : State) (i : EntryNo) (r : PatternEntry) : (s.setPattern i r).pins = s.pins := rfl
@[simp] theorem State.setPattern_notices (s : State) (i : EntryNo) (r : PatternEntry) : (s.setPattern i r).notices = s.notices := rfl
@[simp] theorem State.setPattern_links (s : State) (i : EntryNo) (r : PatternEntry) : (s.setPattern i r).links = s.links := rfl
@[simp] theorem State.setPattern_pending (s : State) (i : EntryNo) (r : PatternEntry) : (s.setPattern i r).pending = s.pending := rfl
@[simp] theorem State.setPattern_page (s : State) (i : EntryNo) (r : PatternEntry) (j : PageNo) :
    (s.setPattern i r).page j = s.page j := rfl
@[simp] theorem State.setPattern_stream (s : State) (i : EntryNo) (r : PatternEntry) (j : StreamNo) :
    (s.setPattern i r).stream j = s.stream j := rfl
@[simp] theorem State.setPattern_capture (s : State) (i : EntryNo) (r : PatternEntry) (j : Port) :
    (s.setPattern i r).capture j = s.capture j := rfl
@[simp] theorem State.setPattern_egress (s : State) (i : EntryNo) (r : PatternEntry) (j : Port) :
    (s.setPattern i r).egress j = s.egress j := rfl
@[simp] theorem State.setPattern_pin (s : State) (i : EntryNo) (r : PatternEntry) (j : Port) :
    (s.setPattern i r).pin j = s.pin j := rfl
@[simp] theorem State.setPattern_notice (s : State) (i : EntryNo) (r : PatternEntry) (j : Port) :
    (s.setPattern i r).notice j = s.notice j := rfl
@[simp] theorem State.setPattern_link (s : State) (i : EntryNo) (r : PatternEntry) (j : Port) :
    (s.setPattern i r).link j = s.link j := rfl
@[simp] theorem State.setPattern_context (s : State) (i : EntryNo) (r : PatternEntry) (p : Port) (t : Tag) :
    (s.setPattern i r).context p t = s.context p t := rfl
@[simp] theorem State.setPattern_pattern_self (s : State) (i : EntryNo) (r : PatternEntry) : (s.setPattern i r).pattern i = r := Table.get_put_self ..
theorem State.setPattern_pattern (s : State) (i : EntryNo) (r : PatternEntry) (j : EntryNo) :
    (s.setPattern i r).pattern j = if i = j then r else s.pattern j := Table.get_put ..
theorem State.setPattern_pattern_ne (s : State) (r : PatternEntry) {i j : EntryNo} (h : i ≠ j) : (s.setPattern i r).pattern j = s.pattern j :=
  Table.get_put_ne _ _ h
@[simp] theorem State.setPattern_same (s : State) (i : EntryNo) : s.setPattern i (s.pattern i) = s := by
  simp [State.setPattern, State.pattern]

/-! ### setNotice -/

@[simp] theorem State.setNotice_inReset (s : State) (i : Port) (r : NoticeUnit) : (s.setNotice i r).inReset = s.inReset := rfl
@[simp] theorem State.setNotice_cfgHold (s : State) (i : Port) (r : NoticeUnit) : (s.setNotice i r).cfgHold = s.cfgHold := rfl
@[simp] theorem State.setNotice_timeBase (s : State) (i : Port) (r : NoticeUnit) : (s.setNotice i r).timeBase = s.timeBase := rfl
@[simp] theorem State.setNotice_frameStore (s : State) (i : Port) (r : NoticeUnit) : (s.setNotice i r).frameStore = s.frameStore := rfl
@[simp] theorem State.setNotice_pages (s : State) (i : Port) (r : NoticeUnit) : (s.setNotice i r).pages = s.pages := rfl
@[simp] theorem State.setNotice_freeList (s : State) (i : Port) (r : NoticeUnit) : (s.setNotice i r).freeList = s.freeList := rfl
@[simp] theorem State.setNotice_streams (s : State) (i : Port) (r : NoticeUnit) : (s.setNotice i r).streams = s.streams := rfl
@[simp] theorem State.setNotice_captures (s : State) (i : Port) (r : NoticeUnit) : (s.setNotice i r).captures = s.captures := rfl
@[simp] theorem State.setNotice_egresses (s : State) (i : Port) (r : NoticeUnit) : (s.setNotice i r).egresses = s.egresses := rfl
@[simp] theorem State.setNotice_pins (s : State) (i : Port) (r : NoticeUnit) : (s.setNotice i r).pins = s.pins := rfl
@[simp] theorem State.setNotice_patterns (s : State) (i : Port) (r : NoticeUnit) : (s.setNotice i r).patterns = s.patterns := rfl
@[simp] theorem State.setNotice_links (s : State) (i : Port) (r : NoticeUnit) : (s.setNotice i r).links = s.links := rfl
@[simp] theorem State.setNotice_pending (s : State) (i : Port) (r : NoticeUnit) : (s.setNotice i r).pending = s.pending := rfl
@[simp] theorem State.setNotice_page (s : State) (i : Port) (r : NoticeUnit) (j : PageNo) :
    (s.setNotice i r).page j = s.page j := rfl
@[simp] theorem State.setNotice_stream (s : State) (i : Port) (r : NoticeUnit) (j : StreamNo) :
    (s.setNotice i r).stream j = s.stream j := rfl
@[simp] theorem State.setNotice_capture (s : State) (i : Port) (r : NoticeUnit) (j : Port) :
    (s.setNotice i r).capture j = s.capture j := rfl
@[simp] theorem State.setNotice_egress (s : State) (i : Port) (r : NoticeUnit) (j : Port) :
    (s.setNotice i r).egress j = s.egress j := rfl
@[simp] theorem State.setNotice_pin (s : State) (i : Port) (r : NoticeUnit) (j : Port) :
    (s.setNotice i r).pin j = s.pin j := rfl
@[simp] theorem State.setNotice_pattern (s : State) (i : Port) (r : NoticeUnit) (j : EntryNo) :
    (s.setNotice i r).pattern j = s.pattern j := rfl
@[simp] theorem State.setNotice_link (s : State) (i : Port) (r : NoticeUnit) (j : Port) :
    (s.setNotice i r).link j = s.link j := rfl
@[simp] theorem State.setNotice_context (s : State) (i : Port) (r : NoticeUnit) (p : Port) (t : Tag) :
    (s.setNotice i r).context p t = s.context p t := rfl
@[simp] theorem State.setNotice_notice_self (s : State) (i : Port) (r : NoticeUnit) : (s.setNotice i r).notice i = r := Table.get_put_self ..
theorem State.setNotice_notice (s : State) (i : Port) (r : NoticeUnit) (j : Port) :
    (s.setNotice i r).notice j = if i = j then r else s.notice j := Table.get_put ..
theorem State.setNotice_notice_ne (s : State) (r : NoticeUnit) {i j : Port} (h : i ≠ j) : (s.setNotice i r).notice j = s.notice j :=
  Table.get_put_ne _ _ h
@[simp] theorem State.setNotice_same (s : State) (i : Port) : s.setNotice i (s.notice i) = s := by
  simp [State.setNotice, State.notice]

/-! ### setLink -/

@[simp] theorem State.setLink_inReset (s : State) (i : Port) (r : Option Answer) : (s.setLink i r).inReset = s.inReset := rfl
@[simp] theorem State.setLink_cfgHold (s : State) (i : Port) (r : Option Answer) : (s.setLink i r).cfgHold = s.cfgHold := rfl
@[simp] theorem State.setLink_timeBase (s : State) (i : Port) (r : Option Answer) : (s.setLink i r).timeBase = s.timeBase := rfl
@[simp] theorem State.setLink_frameStore (s : State) (i : Port) (r : Option Answer) : (s.setLink i r).frameStore = s.frameStore := rfl
@[simp] theorem State.setLink_pages (s : State) (i : Port) (r : Option Answer) : (s.setLink i r).pages = s.pages := rfl
@[simp] theorem State.setLink_freeList (s : State) (i : Port) (r : Option Answer) : (s.setLink i r).freeList = s.freeList := rfl
@[simp] theorem State.setLink_streams (s : State) (i : Port) (r : Option Answer) : (s.setLink i r).streams = s.streams := rfl
@[simp] theorem State.setLink_captures (s : State) (i : Port) (r : Option Answer) : (s.setLink i r).captures = s.captures := rfl
@[simp] theorem State.setLink_egresses (s : State) (i : Port) (r : Option Answer) : (s.setLink i r).egresses = s.egresses := rfl
@[simp] theorem State.setLink_pins (s : State) (i : Port) (r : Option Answer) : (s.setLink i r).pins = s.pins := rfl
@[simp] theorem State.setLink_patterns (s : State) (i : Port) (r : Option Answer) : (s.setLink i r).patterns = s.patterns := rfl
@[simp] theorem State.setLink_notices (s : State) (i : Port) (r : Option Answer) : (s.setLink i r).notices = s.notices := rfl
@[simp] theorem State.setLink_pending (s : State) (i : Port) (r : Option Answer) : (s.setLink i r).pending = s.pending := rfl
@[simp] theorem State.setLink_page (s : State) (i : Port) (r : Option Answer) (j : PageNo) :
    (s.setLink i r).page j = s.page j := rfl
@[simp] theorem State.setLink_stream (s : State) (i : Port) (r : Option Answer) (j : StreamNo) :
    (s.setLink i r).stream j = s.stream j := rfl
@[simp] theorem State.setLink_capture (s : State) (i : Port) (r : Option Answer) (j : Port) :
    (s.setLink i r).capture j = s.capture j := rfl
@[simp] theorem State.setLink_egress (s : State) (i : Port) (r : Option Answer) (j : Port) :
    (s.setLink i r).egress j = s.egress j := rfl
@[simp] theorem State.setLink_pin (s : State) (i : Port) (r : Option Answer) (j : Port) :
    (s.setLink i r).pin j = s.pin j := rfl
@[simp] theorem State.setLink_pattern (s : State) (i : Port) (r : Option Answer) (j : EntryNo) :
    (s.setLink i r).pattern j = s.pattern j := rfl
@[simp] theorem State.setLink_notice (s : State) (i : Port) (r : Option Answer) (j : Port) :
    (s.setLink i r).notice j = s.notice j := rfl
@[simp] theorem State.setLink_context (s : State) (i : Port) (r : Option Answer) (p : Port) (t : Tag) :
    (s.setLink i r).context p t = s.context p t := rfl
@[simp] theorem State.setLink_link_self (s : State) (i : Port) (r : Option Answer) : (s.setLink i r).link i = r := Table.get_put_self ..
theorem State.setLink_link (s : State) (i : Port) (r : Option Answer) (j : Port) :
    (s.setLink i r).link j = if i = j then r else s.link j := Table.get_put ..
theorem State.setLink_link_ne (s : State) (r : Option Answer) {i j : Port} (h : i ≠ j) : (s.setLink i r).link j = s.link j :=
  Table.get_put_ne _ _ h
@[simp] theorem State.setLink_same (s : State) (i : Port) : s.setLink i (s.link i) = s := by
  simp [State.setLink, State.link]

/-! ### The mod forms are the set forms -/

@[simp] theorem State.modPage_eq (s : State) (i : PageNo) (f : Page → Page) : s.modPage i f = s.setPage i (f (s.page i)) := rfl
@[simp] theorem State.modStream_eq (s : State) (i : StreamNo) (f : Stream → Stream) : s.modStream i f = s.setStream i (f (s.stream i)) := rfl
@[simp] theorem State.modCapture_eq (s : State) (i : Port) (f : Capture → Capture) : s.modCapture i f = s.setCapture i (f (s.capture i)) := rfl
@[simp] theorem State.modEgress_eq (s : State) (i : Port) (f : Egress → Egress) : s.modEgress i f = s.setEgress i (f (s.egress i)) := rfl
@[simp] theorem State.modNotice_eq (s : State) (i : Port) (f : NoticeUnit → NoticeUnit) : s.modNotice i f = s.setNotice i (f (s.notice i)) := rfl

/-! ### Contexts -/

theorem State.setContext_eq (s : State) (p : Port) (t : Tag) (c : Context) :
    s.setContext p t c =
      s.setCapture p { s.capture p with contexts := Table.put (s.capture p).contexts t c } := rfl

@[simp] theorem State.setContext_context_self (s : State) (p : Port) (t : Tag) (c : Context) :
    (s.setContext p t c).context p t = c := by simp [State.setContext, State.context]

/-- A context read after a context was replaced. -/
theorem State.setContext_context (s : State) (p : Port) (t : Tag) (c : Context) (q : Port) (u : Tag) :
    (s.setContext p t c).context q u = if p = q ∧ t = u then c else s.context q u := by
  by_cases h : p = q
  · subst h; simp [State.setContext, State.context, Table.get_put]
  · simp [State.setContext, State.context, State.setCapture_capture, h]

@[simp] theorem State.setContext_inReset (s : State) (p : Port) (t : Tag) (c : Context) : (s.setContext p t c).inReset = s.inReset := rfl
@[simp] theorem State.setContext_cfgHold (s : State) (p : Port) (t : Tag) (c : Context) : (s.setContext p t c).cfgHold = s.cfgHold := rfl
@[simp] theorem State.setContext_timeBase (s : State) (p : Port) (t : Tag) (c : Context) : (s.setContext p t c).timeBase = s.timeBase := rfl
@[simp] theorem State.setContext_frameStore (s : State) (p : Port) (t : Tag) (c : Context) : (s.setContext p t c).frameStore = s.frameStore := rfl
@[simp] theorem State.setContext_pages (s : State) (p : Port) (t : Tag) (c : Context) : (s.setContext p t c).pages = s.pages := rfl
@[simp] theorem State.setContext_freeList (s : State) (p : Port) (t : Tag) (c : Context) : (s.setContext p t c).freeList = s.freeList := rfl
@[simp] theorem State.setContext_streams (s : State) (p : Port) (t : Tag) (c : Context) : (s.setContext p t c).streams = s.streams := rfl
@[simp] theorem State.setContext_egresses (s : State) (p : Port) (t : Tag) (c : Context) : (s.setContext p t c).egresses = s.egresses := rfl
@[simp] theorem State.setContext_pins (s : State) (p : Port) (t : Tag) (c : Context) : (s.setContext p t c).pins = s.pins := rfl
@[simp] theorem State.setContext_patterns (s : State) (p : Port) (t : Tag) (c : Context) : (s.setContext p t c).patterns = s.patterns := rfl
@[simp] theorem State.setContext_notices (s : State) (p : Port) (t : Tag) (c : Context) : (s.setContext p t c).notices = s.notices := rfl
@[simp] theorem State.setContext_links (s : State) (p : Port) (t : Tag) (c : Context) : (s.setContext p t c).links = s.links := rfl
@[simp] theorem State.setContext_pending (s : State) (p : Port) (t : Tag) (c : Context) : (s.setContext p t c).pending = s.pending := rfl
@[simp] theorem State.setContext_page (s : State) (p : Port) (t : Tag) (c : Context) (j : PageNo) :
    (s.setContext p t c).page j = s.page j := rfl
@[simp] theorem State.setContext_stream (s : State) (p : Port) (t : Tag) (c : Context) (j : StreamNo) :
    (s.setContext p t c).stream j = s.stream j := rfl
@[simp] theorem State.setContext_egress (s : State) (p : Port) (t : Tag) (c : Context) (j : Port) :
    (s.setContext p t c).egress j = s.egress j := rfl
@[simp] theorem State.setContext_pin (s : State) (p : Port) (t : Tag) (c : Context) (j : Port) :
    (s.setContext p t c).pin j = s.pin j := rfl
@[simp] theorem State.setContext_pattern (s : State) (p : Port) (t : Tag) (c : Context) (j : EntryNo) :
    (s.setContext p t c).pattern j = s.pattern j := rfl
@[simp] theorem State.setContext_notice (s : State) (p : Port) (t : Tag) (c : Context) (j : Port) :
    (s.setContext p t c).notice j = s.notice j := rfl
@[simp] theorem State.setContext_link (s : State) (p : Port) (t : Tag) (c : Context) (j : Port) :
    (s.setContext p t c).link j = s.link j := rfl

/-! ### Records read after a plain field was replaced -/

@[simp] theorem State.with_inReset_page (s : State) (v : Option ResetKind) (j : PageNo) :
    State.page { s with inReset := v } j = s.page j := rfl
@[simp] theorem State.with_inReset_stream (s : State) (v : Option ResetKind) (j : StreamNo) :
    State.stream { s with inReset := v } j = s.stream j := rfl
@[simp] theorem State.with_inReset_capture (s : State) (v : Option ResetKind) (j : Port) :
    State.capture { s with inReset := v } j = s.capture j := rfl
@[simp] theorem State.with_inReset_egress (s : State) (v : Option ResetKind) (j : Port) :
    State.egress { s with inReset := v } j = s.egress j := rfl
@[simp] theorem State.with_inReset_pin (s : State) (v : Option ResetKind) (j : Port) :
    State.pin { s with inReset := v } j = s.pin j := rfl
@[simp] theorem State.with_inReset_pattern (s : State) (v : Option ResetKind) (j : EntryNo) :
    State.pattern { s with inReset := v } j = s.pattern j := rfl
@[simp] theorem State.with_inReset_notice (s : State) (v : Option ResetKind) (j : Port) :
    State.notice { s with inReset := v } j = s.notice j := rfl
@[simp] theorem State.with_inReset_link (s : State) (v : Option ResetKind) (j : Port) :
    State.link { s with inReset := v } j = s.link j := rfl
@[simp] theorem State.with_inReset_context (s : State) (v : Option ResetKind) (p : Port) (t : Tag) :
    State.context { s with inReset := v } p t = s.context p t := rfl
@[simp] theorem State.with_cfgHold_page (s : State) (v : Bool) (j : PageNo) :
    State.page { s with cfgHold := v } j = s.page j := rfl
@[simp] theorem State.with_cfgHold_stream (s : State) (v : Bool) (j : StreamNo) :
    State.stream { s with cfgHold := v } j = s.stream j := rfl
@[simp] theorem State.with_cfgHold_capture (s : State) (v : Bool) (j : Port) :
    State.capture { s with cfgHold := v } j = s.capture j := rfl
@[simp] theorem State.with_cfgHold_egress (s : State) (v : Bool) (j : Port) :
    State.egress { s with cfgHold := v } j = s.egress j := rfl
@[simp] theorem State.with_cfgHold_pin (s : State) (v : Bool) (j : Port) :
    State.pin { s with cfgHold := v } j = s.pin j := rfl
@[simp] theorem State.with_cfgHold_pattern (s : State) (v : Bool) (j : EntryNo) :
    State.pattern { s with cfgHold := v } j = s.pattern j := rfl
@[simp] theorem State.with_cfgHold_notice (s : State) (v : Bool) (j : Port) :
    State.notice { s with cfgHold := v } j = s.notice j := rfl
@[simp] theorem State.with_cfgHold_link (s : State) (v : Bool) (j : Port) :
    State.link { s with cfgHold := v } j = s.link j := rfl
@[simp] theorem State.with_cfgHold_context (s : State) (v : Bool) (p : Port) (t : Tag) :
    State.context { s with cfgHold := v } p t = s.context p t := rfl
@[simp] theorem State.with_timeBase_page (s : State) (v : Word32) (j : PageNo) :
    State.page { s with timeBase := v } j = s.page j := rfl
@[simp] theorem State.with_timeBase_stream (s : State) (v : Word32) (j : StreamNo) :
    State.stream { s with timeBase := v } j = s.stream j := rfl
@[simp] theorem State.with_timeBase_capture (s : State) (v : Word32) (j : Port) :
    State.capture { s with timeBase := v } j = s.capture j := rfl
@[simp] theorem State.with_timeBase_egress (s : State) (v : Word32) (j : Port) :
    State.egress { s with timeBase := v } j = s.egress j := rfl
@[simp] theorem State.with_timeBase_pin (s : State) (v : Word32) (j : Port) :
    State.pin { s with timeBase := v } j = s.pin j := rfl
@[simp] theorem State.with_timeBase_pattern (s : State) (v : Word32) (j : EntryNo) :
    State.pattern { s with timeBase := v } j = s.pattern j := rfl
@[simp] theorem State.with_timeBase_notice (s : State) (v : Word32) (j : Port) :
    State.notice { s with timeBase := v } j = s.notice j := rfl
@[simp] theorem State.with_timeBase_link (s : State) (v : Word32) (j : Port) :
    State.link { s with timeBase := v } j = s.link j := rfl
@[simp] theorem State.with_timeBase_context (s : State) (v : Word32) (p : Port) (t : Tag) :
    State.context { s with timeBase := v } p t = s.context p t := rfl
@[simp] theorem State.with_frameStore_page (s : State) (v : Memory) (j : PageNo) :
    State.page { s with frameStore := v } j = s.page j := rfl
@[simp] theorem State.with_frameStore_stream (s : State) (v : Memory) (j : StreamNo) :
    State.stream { s with frameStore := v } j = s.stream j := rfl
@[simp] theorem State.with_frameStore_capture (s : State) (v : Memory) (j : Port) :
    State.capture { s with frameStore := v } j = s.capture j := rfl
@[simp] theorem State.with_frameStore_egress (s : State) (v : Memory) (j : Port) :
    State.egress { s with frameStore := v } j = s.egress j := rfl
@[simp] theorem State.with_frameStore_pin (s : State) (v : Memory) (j : Port) :
    State.pin { s with frameStore := v } j = s.pin j := rfl
@[simp] theorem State.with_frameStore_pattern (s : State) (v : Memory) (j : EntryNo) :
    State.pattern { s with frameStore := v } j = s.pattern j := rfl
@[simp] theorem State.with_frameStore_notice (s : State) (v : Memory) (j : Port) :
    State.notice { s with frameStore := v } j = s.notice j := rfl
@[simp] theorem State.with_frameStore_link (s : State) (v : Memory) (j : Port) :
    State.link { s with frameStore := v } j = s.link j := rfl
@[simp] theorem State.with_frameStore_context (s : State) (v : Memory) (p : Port) (t : Tag) :
    State.context { s with frameStore := v } p t = s.context p t := rfl
@[simp] theorem State.with_freeList_page (s : State) (v : List PageNo) (j : PageNo) :
    State.page { s with freeList := v } j = s.page j := rfl
@[simp] theorem State.with_freeList_stream (s : State) (v : List PageNo) (j : StreamNo) :
    State.stream { s with freeList := v } j = s.stream j := rfl
@[simp] theorem State.with_freeList_capture (s : State) (v : List PageNo) (j : Port) :
    State.capture { s with freeList := v } j = s.capture j := rfl
@[simp] theorem State.with_freeList_egress (s : State) (v : List PageNo) (j : Port) :
    State.egress { s with freeList := v } j = s.egress j := rfl
@[simp] theorem State.with_freeList_pin (s : State) (v : List PageNo) (j : Port) :
    State.pin { s with freeList := v } j = s.pin j := rfl
@[simp] theorem State.with_freeList_pattern (s : State) (v : List PageNo) (j : EntryNo) :
    State.pattern { s with freeList := v } j = s.pattern j := rfl
@[simp] theorem State.with_freeList_notice (s : State) (v : List PageNo) (j : Port) :
    State.notice { s with freeList := v } j = s.notice j := rfl
@[simp] theorem State.with_freeList_link (s : State) (v : List PageNo) (j : Port) :
    State.link { s with freeList := v } j = s.link j := rfl
@[simp] theorem State.with_freeList_context (s : State) (v : List PageNo) (p : Port) (t : Tag) :
    State.context { s with freeList := v } p t = s.context p t := rfl
@[simp] theorem State.with_pending_page (s : State) (v : List Instr) (j : PageNo) :
    State.page { s with pending := v } j = s.page j := rfl
@[simp] theorem State.with_pending_stream (s : State) (v : List Instr) (j : StreamNo) :
    State.stream { s with pending := v } j = s.stream j := rfl
@[simp] theorem State.with_pending_capture (s : State) (v : List Instr) (j : Port) :
    State.capture { s with pending := v } j = s.capture j := rfl
@[simp] theorem State.with_pending_egress (s : State) (v : List Instr) (j : Port) :
    State.egress { s with pending := v } j = s.egress j := rfl
@[simp] theorem State.with_pending_pin (s : State) (v : List Instr) (j : Port) :
    State.pin { s with pending := v } j = s.pin j := rfl
@[simp] theorem State.with_pending_pattern (s : State) (v : List Instr) (j : EntryNo) :
    State.pattern { s with pending := v } j = s.pattern j := rfl
@[simp] theorem State.with_pending_notice (s : State) (v : List Instr) (j : Port) :
    State.notice { s with pending := v } j = s.notice j := rfl
@[simp] theorem State.with_pending_link (s : State) (v : List Instr) (j : Port) :
    State.link { s with pending := v } j = s.link j := rfl
@[simp] theorem State.with_pending_context (s : State) (v : List Instr) (p : Port) (t : Tag) :
    State.context { s with pending := v } p t = s.context p t := rfl

/-! ### The state after reset -/

@[simp] theorem State.reset_page (j : PageNo) : State.reset.page j = Page.cleared := by
  simp [State.reset, State.page]
@[simp] theorem State.reset_stream (j : StreamNo) : State.reset.stream j = Stream.initial := by
  simp [State.reset, State.stream]
@[simp] theorem State.reset_capture (j : Port) : State.reset.capture j = Capture.initial := by
  simp [State.reset, State.capture]
@[simp] theorem State.reset_egress (j : Port) : State.reset.egress j = Egress.initial := by
  simp [State.reset, State.egress]
@[simp] theorem State.reset_pin (j : Port) : State.reset.pin j = none := by
  simp [State.reset, State.pin]
@[simp] theorem State.reset_pattern (j : EntryNo) : State.reset.pattern j = PatternEntry.cleared := by
  simp [State.reset, State.pattern]
@[simp] theorem State.reset_notice (j : Port) : State.reset.notice j = NoticeUnit.initial := by
  simp [State.reset, State.notice]
@[simp] theorem State.reset_link (j : Port) : State.reset.link j = none := by
  simp [State.reset, State.link]

end Machine

end Sys2Proof
end

