-- ==== Sys2Proof/Laws/Pool.lean ====
section
/-! SUPPORT. What the shared operations of Ops.lean can change. `PoolOnly s t`: from `s` to `t` only pages,
the free list, stream records and notices may have changed. `SettingsKept s t`: of a stream record only the
ready list, the reclaimed counter, the state and the owner may have changed. -/

namespace Sys2Proof.Machine

/-- Only pages, the free list, streams and notices may differ. -/
structure PoolOnly (s t : State) : Prop where
  inReset : t.inReset = s.inReset
  cfgHold : t.cfgHold = s.cfgHold
  timeBase : t.timeBase = s.timeBase
  frameStore : t.frameStore = s.frameStore
  captures : t.captures = s.captures
  egresses : t.egresses = s.egresses
  pins : t.pins = s.pins
  patterns : t.patterns = s.patterns
  links : t.links = s.links
  pending : t.pending = s.pending

theorem PoolOnly.refl (s : State) : PoolOnly s s := ⟨rfl, rfl, rfl, rfl, rfl, rfl, rfl, rfl, rfl, rfl⟩

theorem PoolOnly.trans {s t u : State} (h : PoolOnly s t) (k : PoolOnly t u) : PoolOnly s u :=
  ⟨k.inReset.trans h.inReset, k.cfgHold.trans h.cfgHold, k.timeBase.trans h.timeBase,
    k.frameStore.trans h.frameStore, k.captures.trans h.captures, k.egresses.trans h.egresses,
    k.pins.trans h.pins, k.patterns.trans h.patterns, k.links.trans h.links, k.pending.trans h.pending⟩

theorem PoolOnly.egress {s t : State} (h : PoolOnly s t) (p : Port) : t.egress p = s.egress p := by
  simp [State.egress, h.egresses]
theorem PoolOnly.capture {s t : State} (h : PoolOnly s t) (p : Port) : t.capture p = s.capture p := by
  simp [State.capture, h.captures]
theorem PoolOnly.context {s t : State} (h : PoolOnly s t) (p : Port) (g : Tag) : t.context p g = s.context p g := by
  simp [State.context, h.capture]
theorem PoolOnly.pin {s t : State} (h : PoolOnly s t) (p : Port) : t.pin p = s.pin p := by
  simp [State.pin, h.pins]
theorem PoolOnly.pattern {s t : State} (h : PoolOnly s t) (e : EntryNo) : t.pattern e = s.pattern e := by
  simp [State.pattern, h.patterns]
theorem PoolOnly.link {s t : State} (h : PoolOnly s t) (p : Port) : t.link p = s.link p := by
  simp [State.link, h.links]

theorem PoolOnly.setPage (s : State) (g : PageNo) (r : Page) : PoolOnly s (s.setPage g r) :=
  ⟨rfl, rfl, rfl, rfl, rfl, rfl, rfl, rfl, rfl, rfl⟩
theorem PoolOnly.setStream (s : State) (st : StreamNo) (r : Stream) : PoolOnly s (s.setStream st r) :=
  ⟨rfl, rfl, rfl, rfl, rfl, rfl, rfl, rfl, rfl, rfl⟩
theorem PoolOnly.setNotice (s : State) (p : Port) (u : NoticeUnit) : PoolOnly s (s.setNotice p u) :=
  ⟨rfl, rfl, rfl, rfl, rfl, rfl, rfl, rfl, rfl, rfl⟩
theorem PoolOnly.setFreeList (s : State) (l : List PageNo) : PoolOnly s { s with freeList := l } :=
  ⟨rfl, rfl, rfl, rfl, rfl, rfl, rfl, rfl, rfl, rfl⟩

/-- A fold of operations of the kind is of the kind. -/
theorem PoolOnly.foldl {α : Type} {f : State → α → State} (h : ∀ s a, PoolOnly s (f s a)) (l : List α) (s : State) :
    PoolOnly s (l.foldl f s) := by
  induction l generalizing s with
  | nil => exact .refl s
  | cons a rest ih => exact (h s a).trans (ih _)

theorem PoolOnly.raiseAt (p : Port) (n : Notice) (s : State) : PoolOnly s (raiseAt p n s) := .setNotice ..

theorem PoolOnly.raiseOwn (n : OwnNotice) (st : StreamNo) (s : State) : PoolOnly s (raiseOwn n st s) := by
  unfold Machine.raiseOwn
  split
  · exact .refl s
  · exact .setNotice ..

theorem PoolOnly.leaveReadyList (st : StreamNo) (g : PageNo) (s : State) : PoolOnly s (leaveReadyList st g s) :=
  .setStream ..

theorem PoolOnly.clearToFree (g : PageNo) (s : State) : PoolOnly s (clearToFree g s) :=
  (PoolOnly.setPage s g Page.cleared).trans (.setFreeList _ _)

theorem PoolOnly.freeFilling (g : PageNo) (s : State) : PoolOnly s (freeFilling g s) := by
  unfold Machine.freeFilling
  split
  · exact .clearToFree ..
  · exact .refl s

theorem PoolOnly.freeReady (g : PageNo) (s : State) : PoolOnly s (freeReady g s) := by
  unfold Machine.freeReady
  split
  · split
    · exact (PoolOnly.leaveReadyList ..).trans (.clearToFree ..)
    · exact .clearToFree ..
  · exact .refl s

theorem PoolOnly.freeAll (l : List PageNo) (s : State) : PoolOnly s (freeAll l s) :=
  .foldl (fun s g => .freeReady g s) l s

theorem PoolOnly.reachClosed (st : StreamNo) (s : State) : PoolOnly s (reachClosed st s) :=
  (PoolOnly.raiseOwn ..).trans (.setStream ..)

theorem PoolOnly.endDrain (st : StreamNo) (s : State) : PoolOnly s (endDrain st s) := by
  unfold Machine.endDrain
  split
  · exact .reachClosed ..
  · exact .refl s

theorem PoolOnly.evaluateRelease (st : StreamNo) (s : State) : PoolOnly s (evaluateRelease st s) :=
  (PoolOnly.freeAll ..).trans (.endDrain ..)

theorem PoolOnly.evaluateReleaseOf (g : PageNo) (s : State) : PoolOnly s (evaluateReleaseOf g s) := by
  unfold Machine.evaluateReleaseOf
  split
  · exact .evaluateRelease ..
  · exact .refl s

theorem PoolOnly.takeHold (h : Holder) (g : PageNo) (s : State) : PoolOnly s (takeHold h g s) := by
  unfold Machine.takeHold
  split
  · exact .setPage ..
  · exact .refl s

theorem PoolOnly.releaseHold (h : Holder) (g : PageNo) (s : State) : PoolOnly s (releaseHold h g s) := by
  unfold Machine.releaseHold
  split
  · exact (PoolOnly.setPage ..).trans (.evaluateReleaseOf ..)
  · exact .refl s

theorem PoolOnly.leaveSubscription (p : Port) (s : State) : PoolOnly s (leaveSubscription p s) := by
  unfold Machine.leaveSubscription
  split
  · exact (PoolOnly.setStream ..).trans (.evaluateRelease ..)
  · exact .refl s

theorem PoolOnly.abortFrame (g : PageNo) (s : State) : PoolOnly s (abortFrame g s) := by
  unfold Machine.abortFrame
  split
  · split
    · exact .freeFilling ..
    · exact (PoolOnly.freeFilling ..).trans ((PoolOnly.setStream ..).trans (.raiseOwn ..))
  · exact .refl s

theorem PoolOnly.abortContext (p : Port) (t : Tag) (s : State) : PoolOnly s (abortContext p t s) := by
  unfold Machine.abortContext
  split
  · exact .abortFrame ..
  · exact .refl s

theorem PoolOnly.raiseFollowersLost (k : Port) (s : State) : PoolOnly s (raiseFollowersLost k s) := by
  refine .foldl (fun s j => ?_) allPorts s
  split
  · exact .raiseAt ..
  · exact .refl s

/-- Giving up an egress's held page: the egress forgets it, the rest is a release. -/
theorem dropHeld_egress (p q : Port) (s : State) :
    (dropHeld p s).egress q = if p = q then { s.egress p with held := none } else s.egress q := by
  unfold dropHeld
  split
  · next h =>
    split
    · next hpq => subst hpq; rw [← h]
    · rfl
  · rw [(PoolOnly.releaseHold ..).egress]; simp [State.setEgress_egress]

/-- Of each stream record, only the ready list, the reclaimed counter, the state and the owner may differ. -/
structure SettingsKept (s t : State) : Prop where
  stream : ∀ st : StreamNo, t.stream st =
    { s.stream st with
      ready := (t.stream st).ready, reclaimed := (t.stream st).reclaimed, state := (t.stream st).state,
      owner := (t.stream st).owner }

theorem SettingsKept.refl (s : State) : SettingsKept s s := ⟨fun _ => rfl⟩

theorem SettingsKept.trans {s t u : State} (h : SettingsKept s t) (k : SettingsKept t u) : SettingsKept s u :=
  ⟨fun st => by rw [k.stream st, h.stream st]⟩

theorem SettingsKept.of_streams {s t : State} (h : t.streams = s.streams) : SettingsKept s t := by
  refine ⟨fun st => ?_⟩; simp [State.stream, h]

theorem SettingsKept.setStream {s : State} {n : StreamNo} {r : Stream}
    (h : r = { s.stream n with ready := r.ready, reclaimed := r.reclaimed, state := r.state, owner := r.owner }) :
    SettingsKept s (s.setStream n r) := by
  refine ⟨fun st => ?_⟩
  by_cases e : n = st
  · subst e; simpa using h
  · simp [State.setStream_stream, e]

theorem SettingsKept.foldl {α : Type} {f : State → α → State} (h : ∀ s a, SettingsKept s (f s a)) (l : List α)
    (s : State) : SettingsKept s (l.foldl f s) := by
  induction l generalizing s with
  | nil => exact .refl s
  | cons a rest ih => exact (h s a).trans (ih _)

theorem SettingsKept.raiseOwn (n : OwnNotice) (st : StreamNo) (s : State) : SettingsKept s (raiseOwn n st s) := by
  unfold Machine.raiseOwn
  split
  · exact .refl s
  · exact .of_streams rfl

theorem SettingsKept.freeReady (g : PageNo) (s : State) : SettingsKept s (freeReady g s) := by
  unfold Machine.freeReady
  split
  · split
    · exact (SettingsKept.setStream rfl).trans (.of_streams rfl)
    · exact .of_streams rfl
  · exact .refl s

theorem SettingsKept.endDrain (st : StreamNo) (s : State) : SettingsKept s (endDrain st s) := by
  unfold Machine.endDrain
  split
  · exact (SettingsKept.raiseOwn ..).trans (.setStream rfl)
  · exact .refl s

theorem SettingsKept.evaluateRelease (st : StreamNo) (s : State) : SettingsKept s (evaluateRelease st s) :=
  (SettingsKept.foldl (fun s g => .freeReady g s) _ s).trans (.endDrain ..)

theorem SettingsKept.releaseHold (h : Holder) (g : PageNo) (s : State) : SettingsKept s (releaseHold h g s) := by
  unfold Machine.releaseHold
  split
  · refine SettingsKept.trans (.of_streams (t := s.modPage g fun r => r.unhold h) rfl) ?_
    unfold evaluateReleaseOf
    split
    · exact .evaluateRelease ..
    · exact .refl _
  · exact .refl s

end Sys2Proof.Machine
end

