-- ==== Sys2Proof/Laws/Release.lean ====
section
/-! SUPPORT. The sequence order, the release rules and the end of a frame as the statements write them
(Sys2Proof/Safety.lean), against the operations that compute them. -/

namespace Sys2Proof.Machine

/-- The order the operations use is the order of 00_scope.md. -/
theorem laterThan_iff (a b : Word32) : laterThan a b = true ↔ IsLater a b := by
  simp only [laterThan, IsLater, Bool.and_eq_true, decide_eq_true_eq]
  omega

theorem laterThan_eq_decide (a b : Word32) : laterThan a b = decide (IsLater a b) := by
  rw [Bool.eq_iff_iff, laterThan_iff, decide_eq_true_iff]

/-- What the QUEUED rule computes is that every subscriber has passed the sequence (R88). -/
theorem passedByAll_iff (s : State) (st : StreamNo) (q : Word32) :
    passedByAll s (s.stream st).subscribers q = true ↔ PassedByEverySubscriber s st q := by
  have mem : ∀ j : Port, j ∈ allPorts := by decide
  simp only [passedByAll, PassedByEverySubscriber, List.all_eq_true, Bool.or_eq_true, Bool.not_eq_true']
  constructor
  · intro h j hj
    have := h j (mem j)
    rw [hj] at this
    cases hc : (s.egress j).cursor <;> simp_all [laterThan_eq_decide]
  · intro h j _
    cases hj : hasMember (s.stream st).subscribers j
    · exact Or.inl rfl
    · have := h j hj
      cases hc : (s.egress j).cursor <;> simp_all [laterThan_eq_decide]

/-- A RUNNING egress has no frame line left exactly when its frame is over (R99). -/
theorem nextFrameLine_eq_none_iff (e : Egress) (running : e.run = .running) :
    nextFrameLine e = none ↔ e.FrameOver := by
  unfold nextFrameLine Egress.FrameOver
  rw [running]
  cases e.linePosition with
  | none => simp
  | some n => cases e.lineSent <;> simp

/-- FLIP of a RUNNING egress whose frame is over is the flip decision (R99, R115). -/
theorem execFlip_of_frameOver (p : Port) (s : State) (out : s.inReset = none)
    (running : (s.egress p).run = .running) (ended : (s.egress p).FrameOver) :
    execFlip p s = .next (flipDecision p s) := by
  simp [execFlip, outOfReset, out, running, (nextFrameLine_eq_none_iff _ running).2 ended]

/-- FLIP of any other egress changes nothing (log entry 8). -/
theorem execFlip_of_not (p : Port) (s : State)
    (h : (s.egress p).run = .stopped ∨ ¬ (s.egress p).FrameOver) : execFlip p s = .next s := by
  have no : ¬ ((s.egress p).run = .running ∧ nextFrameLine (s.egress p) = none) := by
    rintro ⟨running, ended⟩
    rcases h with stopped | line
    · rw [running] at stopped
      cases stopped
    · exact line ((nextFrameLine_eq_none_iff _ running).1 ended)
  simp [execFlip, outOfReset, no]

end Sys2Proof.Machine
end

