-- ==== Sys2Proof/Tests/Slice0.lean ====
section
/-! SUPPORT. Tests: the well-formedness smoke, words of the wire formats written out from 10.5 and 10.6, one
step of every family on a small state, and for every obligation with hypotheses a witness that meets them,
at boundary values where its clauses have ranges. -/

namespace Sys2Proof.Tests

open Sys2Proof Sys2Proof.Machine

/-! ### Helpers -/

/-- The state a command leaves. -/
def after (c : Instr) (s : State) : State :=
  match exec c s with
  | .next t => t
  | .fault _ => s
  | .refused _ => s

/-- The command has a next state. -/
def runs (c : Instr) (s : State) : Bool :=
  match exec c s with
  | .next _ => true
  | .fault _ => false
  | .refused _ => false

/-- The command stops with this fault. -/
def faultsAt (c : Instr) (s : State) (a : Nat) : Bool :=
  match exec c s with
  | .next _ => false
  | .fault (.outsideFrameStore b) => decide (b = a)
  | .refused _ => false

/-- The status a command answers on the link of port `p`. -/
def status (p : Port) (c : Instr) (s : State) : Option Status := ((after c s).link p).map Answer.status

/-- The response a command answers on the link of port `p`. -/
def response (p : Port) (c : Instr) (s : State) : Option (List Byte) :=
  ((after c s).link p).map Answer.response

/-- Page 0, being filled from P0 tag 0 for stream S0; two bytes stored. -/
def pageFilling : Page :=
  { Page.starting 0 ⟨0, 0⟩ 5 7 100 with lineCount := 1, directory := [2], bytesUsed := 2 }

/-- Page 1 of S0, READY with sequence 1, one line of two bytes, one byte of metadata, held by the egress of P2. -/
def pageReady : Page :=
  { Page.starting 0 ⟨0, 0⟩ 5 6 50 with
    state := .ready, sequence := some 1, endTime := some 60, lineCount := 1, directory := [2], bytesUsed := 2
    metadata := some [0xAB], viewed := true, holdCount := 1, holders := 0x04 }

/-- S0: owned by P1, bound to P0 tag 0, quota 3, its newest page 1, its filling page 0, P2 subscribed. -/
def streamLive (mode : Mode) : Stream :=
  { Stream.opened 1 ⟨0, 0⟩ mode 3 0 40 with
    state := .live, nextSequence := 2, lastSequence := some 1, ready := [⟨1, 1⟩], filling := some 0
    lastStart := some 100, lastInterval := some 16667, subscribers := 0x4, published := 1 }

/-- The egress of P2: RUNNING, subscribed to S0, showing page 1. -/
def egressShowing : Egress :=
  { Egress.initial with
    run := .running, linePosition := some 749, lineSent := true, source := .stream 0, cursor := some 1
    held := some 1, showing := .page, flips := 1, newFrames := 1 }

/-- The egress of P3: RUNNING, following P2, showing BLANK. -/
def egressFollowing : Egress :=
  { Egress.initial with run := .running, linePosition := some 749, lineSent := true, source := .follow 2 }

/-- P0's lane UP, with a frame open on tag 0 and one being discarded on tag 1. -/
def captureBusy : Capture :=
  { Capture.initial with laneUp := true, contexts := #v[.capturing 0, .discarding, .idle, .idle] }

/-- A small state in which every unit is at work. -/
def busy (mode : Mode) : State :=
  { ((((((((State.reset.setPage 0 pageFilling).setPage 1 pageReady).setStream 0 (streamLive mode)).setEgress 2
      egressShowing).setEgress 3 egressFollowing).setCapture 0 captureBusy).setPattern 0
      ⟨true, true, ⟨.bars, 1, 2, 3, #v[1, 2, 3, 4, 5, 6, 7, 8, 9, 10, 11, 12, 13, 14, 15, 16]⟩⟩).setNotice 1
      { NoticeUnit.initial with mask := 0x7FF, watch := some ⟨0, 1⟩ }) with
    freeList := [2, 3, 4, 5, 6, 7, 8, 9, 10, 11, 12, 13, 14, 15], timeBase := 200
    frameStore := [(0, 0x31), (1, 0x32), (8388608, 0x11), (8388609, 0x22)] }

/-- `busy` with the open frame of P0 tag 0 gone, so that S0 waits for a frame start. -/
def idleAgain (mode : Mode) (quota : Nat) : State :=
  { (((busy mode).setPage 0 Page.cleared).setStream 0
      { streamLive mode with filling := none, quota := quota }).setCapture 0
      { captureBusy with contexts := #v[.idle, .discarding, .idle, .idle] } with
    freeList := [2, 3, 4, 5, 6, 7, 8, 9, 10, 11, 12, 13, 14, 15, 0] }

/-- `idleAgain` with a newer page 2, held by no one, on the ready list. -/
def twoReady (mode : Mode) (quota : Nat) : State :=
  { ((idleAgain mode quota).setPage 2
      { pageReady with
        sequence := some 2, metadata := none, viewed := false, holdCount := 0, holders := 0 }).setStream 0
      { streamLive mode with
        filling := none, quota := quota, ready := [⟨1, 1⟩, ⟨2, 2⟩], nextSequence := 3
        lastSequence := some 2 } with
    freeList := [3, 4, 5, 6, 7, 8, 9, 10, 11, 12, 13, 14, 15, 0] }

/-- `busy` with the egress of P2 locked, and its stream locked. -/
def locked : State :=
  ((busy .latest).modEgress 2 fun e => { e with lock := true }).modStream 0 fun r => { r with lock := true }

/-! ### Well-formedness: each check refuses an ill-formed term -/

theorem test_wf_kind : (Instr.frameStart 0 0 64 0).wellFormed = false := by decide
theorem test_wf_line_number : (Instr.line 0 0 4095 [1] 1).wellFormed = false := by decide
theorem test_wf_line_empty : (Instr.line 0 0 0 [] 0).wellFormed = false := by decide
theorem test_wf_line_long (payload : List Byte) (h : payload.length = 8193) :
    (Instr.line 0 0 0 payload 0).wellFormed = false := by
  simp [Instr.wellFormed, lineInRange, Config.maxLineBytes, h]
theorem test_wf_sideband_empty : (Instr.sideband 0 0 [] 0).wellFormed = false := by decide
theorem test_wf_sideband_long : (Instr.sideband 0 0 (List.replicate 33 0) 0).wellFormed = false := by decide
theorem test_wf_status : (Instr.frameEnd 0 0 2 0).wellFormed = false := by decide
theorem test_wf_claimed : (Instr.frameEnd 0 0 0 4096).wellFormed = false := by decide
theorem test_wf_at_the_limits :
    (Instr.frameStart 0 0 63 0).wellFormed = true ∧ (Instr.line 0 0 4094 [1] 0).wellFormed = true ∧
      (Instr.sideband 0 0 (List.replicate 32 0) 0).wellFormed = true ∧
      (Instr.frameEnd 0 0 1 4095).wellFormed = true := by decide

/-! ### Words of the wire formats -/

theorem test_decode_read_id : decodeTransaction 0 [0x01, 0x00] = .readId 0 := by decide
theorem test_decode_set_stream :
    decodeTransaction 2 [0x11, 6, 7, 3, 0x04, 0x38, 0x00, 0x28] = .setStream 2 7 3 1080 40 := by decide
theorem test_decode_pin_page : decodeTransaction 3 [0x30, 1, 15] = .pinPage 3 15 := by decide
theorem test_decode_set_mask : decodeTransaction 1 [0x51, 2, 0x07, 0xFF] = .setMask 1 0x7FF := by decide
theorem test_decode_read_pattern : decodeTransaction 1 [0x42, 1, 7] = .readPattern 1 7 := by decide
theorem test_decode_unknown_code : decodeTransaction 0 [0x36, 0] = .badCommand 0 := by decide
theorem test_decode_wrong_length : decodeTransaction 0 [0x30, 0] = .badCommand 0 := by decide
theorem test_decode_cut_short : decodeTransaction 0 [0x30, 1] = .transactionDiscarded 0 := by decide
theorem test_decode_extra_bytes : decodeTransaction 0 [0x30, 1, 4, 0xFF] = .pinPage 0 4 := by decide
theorem test_decode_sideband : decodeLanePacket 0 [0x31, 0x02, 0xCD, 0x0A, 0x0B, 0x00, 0x15] =
    .sideband 0 1 [0x0A, 0x0B] 0x0015 := by decide
theorem test_decode_reserved_bit : decodeLanePacket 0 [0x14, 5, 0, 0x64, 0x83] = .formatError 0 := by decide
theorem test_decode_wrong_packet_length :
    decodeLanePacket 0 [0x31, 0x02, 0xCD, 0x0A, 0x00, 0x15] = .formatError 0 := by decide
theorem test_table_gives_no_bits : decodeTableWord 8 1 = none := by decide
theorem test_packet_bytes : (LanePacket.frameStart 2 5 100).bytes = [0x12, 5, 0x00, 0x64, 0x85] := by decide
theorem test_answer_phase :
    (List.range 7).map (clockedOut 1 (some (Answer.ok [7, 8]))) = [0, 0, 0, 0, 2, 7, 8] := by decide

/-! ### The states above are in order -/

theorem witness_busy_coherent : Coherent (busy .latest) :=
  ⟨by decide, by decide, by decide, by decide, by decide, by decide, by decide, by decide, by decide, by decide,
    by decide⟩
theorem witness_busy_queued_coherent : Coherent (busy .queued) :=
  ⟨by decide, by decide, by decide, by decide, by decide, by decide, by decide, by decide, by decide, by decide,
    by decide⟩
theorem witness_idleAgain_coherent : Coherent (idleAgain .latest 3) :=
  ⟨by decide, by decide, by decide, by decide, by decide, by decide, by decide, by decide, by decide, by decide,
    by decide⟩

theorem witness_twoReady_coherent : Coherent (twoReady .queued 3) :=
  ⟨by decide, by decide, by decide, by decide, by decide, by decide, by decide, by decide, by decide, by decide,
    by decide⟩
theorem witness_busy_invariants :
    NoticesAgree (busy .latest) ∧ PatternsInRange (busy .latest) ∧ LanePacketsGood (busy .latest) ∧
      Memory.wf (busy .latest).frameStore := by
  have lanes : ∀ p : Port, ((busy .latest).egress p).lane = [] := by decide
  exact ⟨by decide, ⟨by decide, by decide⟩, fun p k hk => by simp [lanes] at hk, by decide⟩

/-! ### The machine: one step of each, and the witnesses -/

theorem test_step_takes_the_front :
    (match step { State.reset with pending := [.laneUp 1, .readId 0] } with
      | .next t => decide ((t.capture 1).laneUp = true) && decide (t.pending = [.readId 0])
      | .fault _ => false
      | .refused _ => false) = true := by decide
theorem witness_OnlyFrameStoreReadsCanStop :
    PagesWellKept (busy .latest) ∧ runs (.egressLine 2) (busy .latest) = true ∧
      faultsAt (.readLine 0 0 1 0 1)
        ((State.reset.setPage 15 { pageReady with lineCount := 2, directory := [8388608, 1] }).setPin 0 (some 15))
        134217728 = true := by decide
theorem witness_EventsInResetChangeNothing :
    ({ busy .latest with inReset := some .part }).inReset.isSome = true ∧ ¬ isReset (.readId 0) ∧
      Instr.readId 0 ≠ .resetEnd ∧ ∀ b, Instr.readId 0 ≠ .cfgholdChange b := by
  refine ⟨rfl, ?_, by decide, fun b h => by cases h⟩
  rintro (h | h) <;> cases h
theorem witness_ResetsLeaveTheResetValues :
    isReset .powerOnReset ∧ isReset .partReset ∧ runs .powerOnReset (busy .latest) = true ∧
      runs .partReset { busy .latest with inReset := some .powerOn } = true :=
  ⟨Or.inl rfl, Or.inr rfl, by decide, by decide⟩
theorem test_part_reset_keeps_the_library :
    (after .partReset (busy .latest)).patterns = (busy .latest).patterns ∧
      (after .powerOnReset (busy .latest)).patterns = State.reset.patterns := by decide
theorem test_part_reset_in_power_on_reset :
    (after .partReset { State.reset with inReset := some .powerOn }).inReset = some .powerOn := by decide
theorem test_reset_end : (after .resetEnd (after .partReset (busy .latest))).inReset = none := by decide
theorem test_cfghold_in_reset :
    (after (.cfgholdChange true) { State.reset with inReset := some .part }).cfgHold = true := by decide
theorem test_time_base_tick :
    (after (.timeBaseTick 1500) (busy .latest)).timeBase = 1700 ∧
      ((after (.timeBaseTick 1500) (busy .latest)).stream 0).timer = .running 38500 := by decide

/-! ### The wire -/

theorem witness_SentCommandsAreDecodedBack :
    encodeCommand (.setWatch 3 7 0xFFFFFFFF) = some (3, 0x52, [7, 0xFF, 0xFF, 0xFF, 0xFF]) ∧
      decodeTransaction 3 (transactionBytes 0x52 [7, 0xFF, 0xFF, 0xFF, 0xFF] ++ [9, 9]) =
        .setWatch 3 7 0xFFFFFFFF := by decide
theorem witness_LanePacketsParseBack :
    (LanePacket.line 3 4094 [0xFF] 0x00FF).inRange = true ∧
      LanePacket.parse (LanePacket.line 3 4094 [0xFF] 0x00FF).bytes = some (.line 3 4094 [0xFF] 0x00FF) ∧
      (LanePacket.frameStart 3 63 0xFFFF).inRange = true ∧ (LanePacket.frameEnd 0 1 4095).inRange = true ∧
      (LanePacket.sideband 1 (List.replicate 32 1) 0).inRange = true := by decide
theorem witness_TransactionsOutsideTheTable :
    ([] : List Byte).length = (0#8).toNat ∧ ([] : List Byte).length < (1#8).toNat ∧
      inCommandTable 0x30 0 = false ∧ inCommandTable 0x30 1 = true := by decide
theorem witness_IdentityAndTimeAreReported :
    State.reset.inReset = none ∧ response 2 (.readId 2) State.reset =
      some [0x0A, 0x31, 0x04, 0x16, 1, 2, 4, 16, 8] ∧
      response 0 (.readTime 0) (busy .latest) = some [0, 0, 0, 200] := by decide
theorem witness_RefusedCommandsChangeNothing :
    (busy .latest).inReset = none ∧ Instr.pinPage 0 16 ≠ .transactionDiscarded 0 ∧
      linkPort (.pinPage 0 16) = some 0 ∧
      (after (.pinPage 0 16) (busy .latest)).link 0 = some ⟨.badArg, 0, []⟩ ∧
      status 1 (.badCommand 1) (busy .latest) = some .badCommand ∧
      (after (.transactionDiscarded 1) (after (.readId 1) (busy .latest))).link 1 = none := by decide
theorem witness_ReadingCommandsChangeOnlyTheirLink :
    (busy .latest).inReset = none ∧ runs (.queryStream 0 0) (busy .latest) = true ∧
      runs (.readMeta 2 1) (busy .latest) = true ∧ runs (.readLine 2 1 0 0 2) (busy .latest) = true := by decide
/-- A library whose entry 0 is valid and unlocked. -/
def unlockedPatterns : Vector PatternEntry 8 :=
  Table.put State.reset.patterns 0 { (busy .latest).pattern 0 with lock := false }

theorem witness_RecordsChangeOnlyAtTheirOwnEvents :
    (after .partReset (busy .latest)).inReset ≠ (busy .latest).inReset ∧
      (after (.cfgholdChange true) (busy .latest)).cfgHold ≠ (busy .latest).cfgHold ∧
      (after (.timeBaseTick 1) (busy .latest)).timeBase ≠ (busy .latest).timeBase ∧
      (after (.lockPattern 0 0) { busy .latest with patterns := unlockedPatterns }).pattern 0 ≠
        Table.get unlockedPatterns 0 ∧
      (after (.pinPage 3 1) (busy .latest)).pin 3 ≠ (busy .latest).pin 3 ∧
      (after (.laneDown 0) (busy .latest)).capture 0 ≠ (busy .latest).capture 0 ∧
      (after (.closeStream 1 0) (busy .latest)).egress 2 ≠ (busy .latest).egress 2 ∧
      (after (.readId 1) (busy .latest)).link 1 ≠ (busy .latest).link 1 := by decide
theorem witness_FrameStoreWrittenOnlyByLines :
    Memory.wf (busy .latest).frameStore ∧ runs (.line 0 0 1 [0x77] 0x77) (busy .latest) = true ∧
      Instr.line 0 0 1 [0x77] 0x77 ≠ .powerOnReset ∧
      (after (.line 0 0 1 [0x77] 0x77) (busy .latest)).frameStore.read 2 ≠ (busy .latest).frameStore.read 2 := by
  decide
theorem witness_ResetPortResetsItsPort :
    (busy .latest).inReset = none ∧ (busy .latest).context 0 0 = .capturing 0 ∧
      ((busy .latest).page 0).state = .filling ∧ (busy .latest).context 0 1 = .discarding ∧
      (busy .latest).context 0 2 = .idle ∧ (locked.egress 2).lock = true ∧
      ((busy .latest).egress 2).lock = false ∧ ((busy .latest).egress 2).run = .running ∧
      ((busy .latest).egress 3).source = .follow 2 ∧
      hasMember ((after (.resetPort 2) (busy .latest)).notice 3).flags 7 = true ∧
      ((after (.resetPort 0) (busy .latest)).page 0).state = .free := by decide

/-! ### Streams -/

theorem witness_OpenStreamSetsTheRecord :
    (7#8).toNat = (7 : StreamNo).val ∧ (3#8).toNat = (3 : Port).val ∧ 1 ≤ (8#8).toNat ∧ (8#8).toNat ≤ 8 ∧
      (4095#16).toNat ≤ 4095 ∧ (busy .latest).inReset = none ∧ (busy .latest).cfgHold = false ∧
      ((busy .latest).stream 7).state = .closed ∧
      (∀ n : StreamNo, ((busy .latest).stream n).binding ≠ some ⟨3, 3⟩) ∧
      committedSum (busy .latest) + (8#8).toNat ≤ 16 ∧
      status 3 (.openStream 3 7 3 3 1 8 4095 4095) (busy .latest) = some .ok ∧
      status 3 (.openStream 3 7 3 3 0 1 0 0) (busy .latest) = some .ok := by decide
theorem witness_OpenStreamRefusesInOrder_ranges :
    8 ≤ (8#8).toNat ∧
      [status 0 (.openStream 0 8 1 1 0 1 0 0) (busy .latest), status 0 (.openStream 0 1 4 1 0 1 0 0) (busy .latest),
        status 0 (.openStream 0 1 1 4 0 1 0 0) (busy .latest),
          status 0 (.openStream 0 1 1 1 2 1 0 0) (busy .latest),
        status 0 (.openStream 0 1 1 1 0 0 0 0) (busy .latest),
          status 0 (.openStream 0 1 1 1 0 9 0 0) (busy .latest),
        status 0 (.openStream 0 1 1 1 0 1 4096 0) (busy .latest),
        status 0 (.openStream 0 1 1 1 0 1 0 4096) (busy .latest)] = List.replicate 8 (some .badArg) := by decide
theorem witness_OpenStreamRefusesInOrder_states :
    ((busy .latest).stream 0).state ≠ .closed ∧ ((busy .latest).stream 0).binding = some ⟨0, 0⟩ ∧
      16 < committedSum ((busy .latest).setStream 1 (Stream.opened 0 ⟨2, 0⟩ .latest 8 0 0)) + (6#8).toNat ∧
      status 0 (.openStream 0 1 1 1 0 1 0 0) { busy .latest with cfgHold := true } = some .denied ∧
      status 0 (.openStream 0 0 1 1 0 1 0 0) (busy .latest) = some .badState ∧
      status 0 (.openStream 0 1 0 0 0 1 0 0) (busy .latest) = some .badState ∧
      status 0 (.openStream 0 2 1 1 0 6 0 0)
        ((busy .latest).setStream 1 (Stream.opened 0 ⟨2, 0⟩ .latest 8 0 0)) = some .noRoom ∧
      status 0 (.openStream 0 2 1 1 0 5 0 0)
        ((busy .latest).setStream 1 (Stream.opened 0 ⟨2, 0⟩ .latest 8 0 0)) = some .ok := by decide
theorem witness_OwnerCommandsRefuseInOrder :
    (busy .latest).inReset = none ∧ 8 ≤ (8#8).toNat ∧ ((busy .latest).stream 5).state = .closed ∧
      ((busy .latest).stream 0).state.isOpen = true ∧ ((busy .latest).stream 0).owner ≠ some 2 ∧
      (locked.stream 0).owner = some 1 ∧ (locked.stream 0).lock = true ∧
      status 1 (.closeStream 1 8) (busy .latest) = some .badArg ∧
      status 1 (.setStream 1 0 9 0 0) (busy .latest) = some .badArg ∧
      status 1 (.lockStream 1 0) { busy .latest with cfgHold := true } = some .denied ∧
      status 1 (.closeStream 1 5) (busy .latest) = some .badState ∧
      status 2 (.lockStream 2 0) (busy .latest) = some .denied ∧ status 1 (.closeStream 1 0) locked = some .denied ∧
      status 1 (.lockStream 1 0) locked = some .ok := by decide
/-- `busy` with 12 pages committed in all: S1 has 8, S2 has 1. -/
def committed12 : State :=
  ((busy .latest).setStream 1 (Stream.opened 0 ⟨2, 0⟩ .latest 8 0 0)).setStream 2
    (Stream.opened 0 ⟨2, 1⟩ .latest 1 0 0)

theorem witness_SetStreamAndLockStreamWriteTheirFields :
    (0#8).toNat = (0 : StreamNo).val ∧ (busy .latest).inReset = none ∧ (busy .latest).cfgHold = false ∧
      ((busy .latest).stream 0).state.isOpen = true ∧ ((busy .latest).stream 0).owner = some 1 ∧
      ((busy .latest).stream 0).lock = false ∧ (1#8).toNat < pageCount (busy .latest) 0 ∧
      pageCount (busy .latest) 0 = 2 ∧ ((busy .latest).stream 0).quota < (8#8).toNat ∧
      status 1 (.setStream 1 0 1 0 40) (busy .latest) = some .badState ∧
      status 1 (.setStream 1 0 2 0 40) (busy .latest) = some .ok ∧
      status 1 (.setStream 1 0 8 4095 4095) (busy .latest) = some .ok ∧
      16 < committedSum committed12 - 3 + 8 ∧ committedSum committed12 - 3 + 7 ≤ 16 ∧
      status 1 (.setStream 1 0 7 0 40) committed12 = some .ok ∧
      status 1 (.setStream 1 0 8 0 40) committed12 = some .noRoom ∧
      ((after (.setStream 1 0 3 0 40) (busy .latest)).stream 0).timer = ((busy .latest).stream 0).timer ∧
      ((after (.setStream 1 0 3 0 0) (busy .latest)).stream 0).timer = .stopped := by decide
theorem witness_CloseStreamUnbindsAndFrees :
    (0#8).toNat = (0 : StreamNo).val ∧ (busy .latest).inReset = none ∧ (busy .latest).cfgHold = false ∧
      ((busy .latest).stream 0).state.isOpen = true ∧ ((busy .latest).stream 0).owner = some 1 ∧
      ((busy .latest).stream 0).lock = false ∧ ((busy .latest).stream 0).filling.isSome = true ∧
      hasMember ((busy .latest).stream 0).subscribers 2 = true ∧
      ((after (.closeStream 1 0) (busy .latest)).stream 0).state = .draining ∧
      ((after (.flip 2) (after (.closeStream 1 0) (busy .latest))).stream 0).state = .closed := by decide
/-- `busy` with the stall timer of S0 at the end of its count, in the state given. -/
def expired (state : StreamState) : State :=
  (busy .latest).modStream 0 fun r => { r with timer := .running 0, state := state }

theorem witness_StallTimerExpiryStallsTheStream :
    (busy .latest).inReset = none ∧ ((busy .latest).stream 0).owner = some 1 ∧
      (expired .live).inReset = none ∧ ((expired .live).stream 0).timer = .running 0 ∧
      ((after (.stallTimerExpiry 0) (expired .waiting)).stream 0).state = .stalled ∧
      ((after (.stallTimerExpiry 0) (expired .live)).stream 0).state = .stalled ∧
      ((after (.stallTimerExpiry 0) (expired .live)).notice 1).stallSet = 0x01 ∧
      ((after (.stallTimerExpiry 0) (expired .stalled)).stream 0).timer = .stopped ∧
      ((after (.stallTimerExpiry 0) (expired .stalled)).notice 1).stallSet = 0x00 ∧
      ((busy .latest).stream 0).timer ≠ .running 0 := by decide
theorem witness_QueriesReportTheRecords :
    (busy .latest).inReset = none ∧ (7#8).toNat = (7 : StreamNo).val ∧ (15#8).toNat = (15 : PageNo).val ∧
      (3#8).toNat = (3 : Port).val ∧
      [status 0 (.queryStream 0 8) (busy .latest), status 0 (.queryEgress 0 4) (busy .latest),
        status 0 (.queryPage 0 16) (busy .latest), status 0 (.queryIngress 0 4) (busy .latest)] =
        List.replicate 4 (some .badArg) ∧
      ((response 0 (.queryStream 0 7) (busy .latest)).getD []).length = 102 ∧
      ((response 0 (.queryEgress 0 2) (busy .latest)).getD []).getD 81 0 = 0x08 ∧
      ((response 0 (.queryPage 0 1) (busy .latest)).getD []).getD 35 0 = 0x04 ∧
      ((response 0 (.queryIngress 0 0) (busy .latest)).getD []).take 3 = [0, 1, 1] := by decide

/-! ### Egress timing -/

theorem witness_SetTimingStoresTheTiming :
    (State.reset.egress 0).run = .stopped ∧ (State.reset.egress 0).lock = false ∧
      ((busy .latest).egress 2).run = .running ∧ (locked.egress 2).lock = true ∧
      status 0 (.setTiming 0 100 1 0 0 1 1 0) State.reset = some .ok ∧
      status 0 (.setTiming 0 65535 3585 255 255 4095 8192 3) State.reset = some .ok ∧
      status 2 (.setTiming 2 100 1 0 0 1 1 0) locked = some .denied ∧
      [status 0 (.setTiming 0 99 1 0 0 1 1 0) State.reset, status 0 (.setTiming 0 100 0 0 0 1 1 0) State.reset,
        status 0 (.setTiming 0 100 1 1 0 1 1 0) State.reset, status 0 (.setTiming 0 100 1 0 0 4096 1 0) State.reset,
        status 0 (.setTiming 0 100 1 0 0 1 0 0) State.reset, status 0 (.setTiming 0 100 1 0 0 1 8193 0) State.reset,
        status 0 (.setTiming 0 100 1 0 0 1 1 4) State.reset] = List.replicate 7 (some .badArg) := by decide
theorem witness_StartEgressBeginsAFrame :
    State.reset.inReset = none ∧ (State.reset.egress 0).lock = false ∧ (State.reset.egress 0).run = .stopped ∧
      ((busy .latest).egress 2).run = .running ∧
      ((after (.startEgress 0) State.reset).egress 0).linePosition = some 0 ∧
      ((after (.startEgress 0) State.reset).egress 0).lane = [.frameStart 0 0 0] ∧
      ((after (.startEgress 0) State.reset).egress 0).fallbackFrames = 1 ∧
      status 2 (.startEgress 2) (busy .latest) = some .badState := by decide

/-- The egress of P2 with a tracking mode, a request and a window. -/
def tracking (mode : TrackingMode) (request : Bool) (window : Nat) (interval : Option Word32) : State :=
  ((busy .latest).modEgress 2 fun e =>
    { e with tracking := mode, trackRequest := request, window := window }).modStream 0 fun r =>
    { r with lastInterval := interval }

theorem witness_TrackingSetsTheFrameLength :
    (tracking .auto false 0 none).inReset = none ∧ ((tracking .auto false 0 none).egress 2).run = .running ∧
      ((tracking .auto false 0 none).egress 2).stopPending = false ∧
      ((after (.flip 2) (tracking .auto false 0 none)).egress 2).totalLines = 750 ∧
      ((after (.flip 2) (tracking .auto false 0 (some 16667))).egress 2).totalLines = 750 ∧
      ((after (.flip 2) (tracking .manual true 5 (some 16777))).egress 2).manualTotal = some 755 ∧
      ((after (.flip 2) (tracking .manual true 4 (some 16777))).egress 2).manualTotal = some 750 ∧
      hasMember ((after (.flip 2) (tracking .manual true 4 (some 16777))).notice 2).flags 9 = true ∧
      ((after (.flip 2) (tracking .manual false 4 (some 16777))).egress 2).totalLines = 750 ∧
      ((after (.flip 2) (tracking .off false 9 (some 16777))).egress 2).totalLines = 750 := by decide

/-- The egress of P2 at frame line `n`, with lines of 4 bytes. -/
def atLine (n : Nat) (sent : Bool) : State :=
  (busy .latest).modEgress 2 fun e =>
    { e with timing := ⟨2222, 2, 1, 1, 5, 4, 3⟩, totalLines := 5, linePosition := some n, lineSent := sent
             frameFill := #v[0xA0, 0xA1, 0xA2, 0xA3] }

theorem witness_EgressLineSendsItsPackets :
    (atLine 0 true).inReset = none ∧ ((atLine 0 true).egress 2).run = .running ∧
      ((after (.egressLine 2) (atLine 0 false)).egress 2).lane = [] ∧
      ((after (.egressLine 2) (atLine 0 true)).egress 2).lane =
        [.line 3 0 [0x11, 0x22, 0xA2, 0xA3] 0x0178] ∧
      ((after (.egressLine 2) (atLine 1 true)).egress 2).lane =
        [.line 3 1 [0xA0, 0xA1, 0xA2, 0xA3] 0x0286, .frameEnd 3 0 2] ∧
      ((after (.egressLine 2) (atLine 2 true)).egress 2).lane = [] ∧
      ((after (.egressLine 2) (atLine 3 true)).egress 2).linePosition = some 4 ∧
      ((after (.egressLine 2) (atLine 4 true)).egress 2).linePosition = some 4 := by decide +kernel
theorem witness_EgressLineSendsItsPackets_premises :
    PagesWellKept (atLine 0 true) ∧ PatternsInRange (atLine 0 true) ∧ ((atLine 0 true).egress 2).ShowingWellKept :=
  ⟨by decide, ⟨by decide, by decide⟩, by decide⟩
theorem witness_EgressLineSendsItsPackets_pattern :
    ((after (.egressLine 2) ((atLine 0 true).modEgress 2 fun e =>
      { e with showing := .pattern 0, held := none, patternCopy := some ((busy .latest).pattern 0).content
               timing := ⟨2222, 2, 1, 1, 5, 7, 3⟩ })).egress 2).lane =
      [.line 3 0 [1, 2, 1, 3, 4, 3, 4] 0x0012] ∧
    ((after (.egressLine 2) ((atLine 0 true).modEgress 2 fun e =>
      { e with showing := .blank, held := none })).egress 2).lane =
      [.line 3 0 [0xA0, 0xA1, 0xA2, 0xA3] 0x0286] := by decide

/-! ### Egress source and settings -/

theorem witness_SubscribeJoinsTheStream :
    (busy .latest).inReset = none ∧ ((busy .latest).egress 3).lock = false ∧
      ((busy .latest).stream 7).state.isOpen = false ∧ ((busy .latest).stream 0).state.isOpen = true ∧
      SubscriptionsExact (busy .latest) ∧ status 3 (.subscribe 3 8) (busy .latest) = some .badArg ∧
      status 3 (.subscribe 3 7) (busy .latest) = some .badState ∧
      ((after (.subscribe 3 0) (busy .latest)).stream 0).subscribers = 0xC := by decide
theorem witness_FollowAndDetachSetTheSource :
    (busy .latest).inReset = none ∧ ((busy .latest).egress 1).lock = false ∧
      ((busy .latest).egress 3).source.isFollow = true ∧ ((busy .latest).egress 2).source.isFollow = false ∧
      (∀ j : Port, ((busy .latest).egress j).source ≠ .follow 1) ∧ SubscriptionsExact (busy .latest) ∧
      [status 1 (.follow 1 4) (busy .latest), status 1 (.follow 1 1) (busy .latest),
        status 1 (.follow 1 3) (busy .latest), status 2 (.follow 2 1) (busy .latest),
        status 1 (.follow 1 2) (busy .latest), status 2 (.detach 2) (busy .latest)] =
        [some .badArg, some .badArg, some .badState, some .badState, some .ok, some .ok] ∧
      ((after (.detach 2) (busy .latest)).stream 0).subscribers = 0 := by decide
theorem witness_EgressSettingsAreStored :
    (busy .latest).inReset = none ∧ ((busy .latest).egress 2).lock = false ∧ ((busy .latest).egress 2).run =
      .running ∧
      (State.reset.egress 0).run = .stopped ∧ (State.reset.egress 0).stopPending = false ∧
      ((tracking .manual false 0 none).egress 2).tracking = .manual ∧
      [status 2 (.stopEgress 2) (busy .latest), status 0 (.stopEgress 0) State.reset,
        status 2 (.setTracking 2 2 255) (busy .latest), status 2 (.trackNow 2) (tracking .manual false 0 none),
        status 2 (.freeze 2) (busy .latest), status 2 (.thaw 2) (busy .latest),
        status 2 (.setFallback 2 2 7 #v[1, 2, 3, 4]) (busy .latest), status 2 (.lockEgress 2) (busy .latest)] =
        List.replicate 8 (some .ok) ∧
      status 2 (.trackNow 2) (busy .latest) = some .badState ∧
      status 2 (.lockEgress 2) { busy .latest with cfgHold := true } = some .denied := by decide
theorem witness_LockedEgressRefusesItsCommands :
    locked.inReset = none ∧ (locked.egress 2).lock = true ∧
      [status 2 (.startEgress 2) locked, status 2 (.stopEgress 2) locked, status 2 (.subscribe 2 7) locked,
        status 2 (.follow 2 3) locked, status 2 (.setTracking 2 2 0) locked, status 2 (.freeze 2) locked,
        status 2 (.setFallback 2 2 7 #v[0, 0, 0, 0]) locked, status 2 (.lockEgress 2) locked] =
        List.replicate 8 (some .denied) ∧
      [status 2 (.subscribe 2 8) locked, status 2 (.setTracking 2 3 0) locked,
        status 2 (.setFallback 2 3 0 #v[0, 0, 0, 0]) locked, status 2 (.setFallback 2 0 8 #v[0, 0, 0, 0]) locked] =
        List.replicate 4 (some .badArg) := by decide

/-! ### The flip -/

/-- `busy` with the egress of P2 changed. -/
def withE2 (f : Egress → Egress) : State := (busy .latest).modEgress 2 f

theorem test_flip_waits_for_the_last_line :
    ¬ ((atLine 4 false).egress 2).FrameOver ∧ ¬ ((atLine 3 true).egress 2).FrameOver ∧
      ((atLine 4 true).egress 2).FrameOver ∧ (after (.flip 2) (atLine 3 true)) = atLine 3 true ∧
      ((after (.flip 2) (after (.egressLine 2) (atLine 3 true))).egress 2).linePosition = some 0 := by decide
theorem test_ranges_tested_when_unlocked :
    ((busy .latest).egress 2).lock = false ∧
      [status 2 (.subscribe 2 8) (busy .latest), status 2 (.setTracking 2 3 0) (busy .latest),
        status 2 (.setFallback 2 3 0 #v[0, 0, 0, 0]) (busy .latest),
        status 2 (.setFallback 2 0 8 #v[0, 0, 0, 0]) (busy .latest)] = List.replicate 4 (some .badArg) := by decide
theorem witness_StoppingFlipStopsTheEgress :
    (State.reset.egress 0).run = .stopped ∧ ((withE2 fun e => { e with stopPending := true }).egress 2).run =
      .running ∧
      ((withE2 fun e => { e with stopPending := true }).egress 2).stopPending = true ∧
      ((busy .latest).egress 3).source = .follow 2 ∧ ((busy .latest).egress 2).held = some 1 ∧
      ((after (.flip 2) (withE2 fun e => { e with stopPending := true })).page 1).holders = 0 ∧
      hasMember ((after (.flip 2) (withE2 fun e => { e with stopPending := true })).notice 3).flags 7 = true := by
  decide
theorem witness_FrozenAndSourcelessFlips :
    ((withE2 fun e => { e with frozen := true }).egress 2).source ≠ .none ∧
      ((after (.flip 2) (withE2 fun e => { e with frozen := true })).egress 2).repeats = 1 ∧
      ((withE2 fun e => { e with source := .none, cursor := none, frozen := true }).egress 2).source = .none ∧
      ((after (.flip 2) (withE2 fun e => { e with source := .none, cursor := none, frozen :=
        true })).egress 2).held =
        none := by decide
theorem test_frozen_pattern_counts_a_fallback_frame :
    ((after (.flip 2) (withE2 fun e => { e with frozen := true, showing := .blank, held := none })).egress 2).fallbackFrames =
      1 := by decide
theorem witness_FlipTakesTheCandidate_latest :
    Coherent (twoReady .latest 3) ∧ (twoReady .latest 3).inReset = none ∧
      ((twoReady .latest 3).egress 2).run = .running ∧ ((twoReady .latest 3).egress 2).stopPending = false ∧
      ((twoReady .latest 3).egress 2).frozen = false ∧ ((twoReady .latest 3).egress 2).source = .stream 0 ∧
      ((twoReady .latest 3).stream 0).mode = .latest ∧ ((twoReady .latest 3).stream 0).ready.getLast? =
        some ⟨2, 2⟩ ∧
      ((twoReady .latest 3).egress 2).cursor = some 1 ∧ IsLater 2 1 ∧ ((twoReady .latest 3).egress 2).FrameOver ∧
      ((after (.flip 2) (twoReady .latest 3)).egress 2).held = some 2 :=
  ⟨⟨by decide, by decide, by decide, by decide, by decide, by decide, by decide, by decide, by decide, by decide,
    by decide⟩, by decide⟩
theorem witness_FlipTakesTheCandidate_queued :
    ((twoReady .queued 3).egress 2).source = .stream 0 ∧ ((twoReady .queued 3).stream 0).mode = .queued ∧
      (((twoReady .queued 3).stream 0).ready.filter fun x => match ((twoReady .queued 3).egress 2).cursor with
        | none => true
        | some q => decide (IsLater x.sequence q)).head? = some ⟨2, 2⟩ ∧
      ((after (.flip 2) (twoReady .queued 3)).egress 2).held = some 2 := by decide
theorem test_sequence_order_ends :
    IsLater 1 0 ∧ IsLater 0x7FFFFFFF 0 ∧ ¬ IsLater 0x80000000 0 ∧ ¬ IsLater 5 5 ∧ IsLater 0 0xFFFFFFFF ∧
      laterThan 0x7FFFFFFF 0 = true ∧ laterThan 0x80000000 0 = false := by decide
theorem witness_FlipWithoutCandidate :
    EgressesWellKept (busy .latest) ∧ ((busy .latest).egress 2).source = .stream 0 ∧
      (∀ x ∈ ((busy .latest).stream 0).ready, ¬ IsLater x.sequence 1) ∧ ((busy .latest).egress 2).FrameOver ∧
      ((busy .latest).egress 2).cursor = some 1 ∧ ((busy .latest).egress 2).held.isSome = true ∧
      ((after (.flip 2) (busy .latest)).egress 2).repeats = 1 ∧
      ((after (.flip 2) ((withE2 fun e => { e with stallAction := .pattern }).modStream 0 fun r =>
        { r with state := .stalled })).egress 2).showing = .pattern 0 ∧
      ((after (.flip 2) ((withE2 fun e => { e with stallAction := .pattern, fallbackEntry :=
        1 }).modStream 0 fun r =>
        { r with state := .stalled })).egress 2).showing = .blank := by decide
/-- `busy` with the egress of P2 showing pattern entry 0. -/
def showingPattern : State :=
  withE2 fun e =>
    { e with showing := .pattern 0, held := none, patternCopy := some ((busy .latest).pattern 0).content }

theorem witness_FlipFollowsTheLeader :
    ((busy .latest).egress 3).run = .running ∧ ((busy .latest).egress 3).source = .follow 2 ∧
      ((busy .latest).egress 3).frozen = false ∧ ((busy .latest).egress 2).held = some 1 ∧
      ((after (.flip 3) (busy .latest)).egress 3).held = some 1 ∧
      ((after (.flip 3) (busy .latest)).page 1).holdCount = 2 ∧
      ((after (.flip 3) showingPattern).egress 3).showing = .pattern 0 ∧
      ((after (.flip 3) (withE2 fun e => { e with showing := .blank, held := none })).egress 3).showing =
        .blank := by
  decide
theorem witness_EveryFlipIsCountedOnce :
    EgressesWellKept (busy .latest) ∧ ((busy .latest).egress 2).run = .running ∧
      ((busy .latest).egress 2).stopPending = false ∧ ((busy .latest).egress 2).frozen = false := by decide
theorem witness_FlipOpensTheFrame :
    ((busy .latest).egress 2).run = .running ∧ ((busy .latest).egress 2).stopPending = false ∧
      ((after (.flip 2) (busy .latest)).egress 2).showing = .page ∧
      ((after (.flip 2) (busy .latest)).egress 2).lane = [.frameStart 0 5 1, .sideband 0 [0xAB] 0xAB] ∧
      (metadataPackets 0 (some (List.replicate 33 1))).length = 2 ∧
      (metadataPackets 0 (some (List.replicate 32 1))).length = 1 := by decide

/-! ### Pins and read-back -/

theorem witness_PinsTakeAHold :
    (busy .latest).inReset = none ∧ (busy .latest).pin 3 = none ∧ ((busy .latest).page 1).state = .ready ∧
      ((busy .latest).page 1).sequence = some 1 ∧ hasMember ((busy .latest).page 1).holders (Holder.pin 3).bit =
        false ∧
      ((busy .latest).stream 0).ready.getLast?.map ReadyEntry.page = some 1 ∧
      [status 3 (.pinPage 3 16) (busy .latest), status 3 (.pinNewest 3 8) (busy .latest),
        status 3 (.pinPage 3 0) (busy .latest), status 3 (.pinPage 3 15) (busy .latest),
        status 3 (.pinNewest 3 7) (busy .latest), status 3 (.pinPage 3 1) (after (.pinPage 3 1) (busy .latest))] =
        [some .badArg, some .badArg, some .badState, some .badState, some .badState, some .badState] ∧
      response 3 (.pinPage 3 1) (busy .latest) = some [1, 0, 0, 0, 1] ∧
      response 3 (.pinNewest 3 0) (busy .latest) = some [1, 0, 0, 0, 1] := by decide
/-- `twoReady` with page 1 held by the pin of P3 alone, the egress of P2 detached. -/
def pinnedOld (mode : Mode) : State :=
  ((((twoReady mode 3).setPage 1 { pageReady with holders := 0x80 }).setPin 3 (some 1)).setEgress 2
    Egress.initial).modStream 0 fun r => { r with subscribers := 0 }

/-- `pinnedOld` with the stream DRAINING and page 1 its last page. -/
def pinnedLast : State :=
  { ((pinnedOld .latest).setPage 2 Page.cleared).modStream 0 fun r =>
      { r with state := .draining, binding := none, timer := .stopped, ready := [⟨1, 1⟩] } with
    freeList := [3, 4, 5, 6, 7, 8, 9, 10, 11, 12, 13, 14, 15, 0, 2] }

theorem witness_UnpinGivesUpTheHold :
    Coherent (pinnedOld .latest) ∧ (pinnedOld .latest).pin 3 = some 1 ∧
      ((pinnedOld .latest).page 1).stream = some 0 ∧ ((pinnedOld .latest).page 1).sequence = some 1 ∧
      ((pinnedOld .latest).page 1).holdCount = 1 ∧ RuleCallsFor (pinnedOld .latest) 0 ⟨1, 1⟩ ∧
      ((after (.unpin 3) (pinnedOld .latest)).page 1).state = .free ∧
      response 3 (.unpin 3) (pinnedOld .latest) = some [1, 1] ∧
      response 3 (.unpin 3) (busy .latest) = some [0, 0] :=
  ⟨⟨by decide, by decide, by decide, by decide, by decide, by decide, by decide, by decide, by decide, by decide,
    by decide⟩, by decide⟩
theorem witness_UnpinGivesUpTheHold_kept :
    ¬ RuleCallsFor (pinnedOld .queued) 0 ⟨1, 1⟩ ∧
      ((after (.unpin 3) (pinnedOld .queued)).page 1).state = .ready ∧
      ¬ RuleCallsFor (after (.pinPage 3 1) (busy .latest)) 0 ⟨1, 1⟩ ∧
      ((after (.unpin 3) (after (.pinPage 3 1) (busy .latest))).page 1).holdCount = 1 := by decide
theorem witness_UnpinGivesUpTheHold_drain :
    Coherent pinnedLast ∧ (pinnedLast.stream 0).state = .draining ∧ pageCount pinnedLast 0 = 1 ∧
      ((after (.unpin 3) pinnedLast).stream 0).state = .closed ∧
      ((after (.unpin 3) pinnedLast).stream 0).owner = none ∧
      ((after (.unpin 3) pinnedLast).notice 1).drainedSet = 0x01 :=
  ⟨⟨by decide, by decide, by decide, by decide, by decide, by decide, by decide, by decide, by decide, by decide,
    by decide⟩, by decide⟩
theorem witness_ReadsReturnTheHeldPage :
    PagesWellKept (busy .latest) ∧ ((busy .latest).egress 2).held = some 1 ∧ (busy .latest).pin 2 = none ∧
      ((busy .latest).page 1).sequence = some 1 ∧
      [status 2 (.readLine 2 2 0 0 1) (busy .latest), status 2 (.readLine 2 1 4095 0 1) (busy .latest),
        status 2 (.readLine 2 1 0 8192 1) (busy .latest), status 2 (.readLine 2 1 0 0 0) (busy .latest),
        status 2 (.readLine 2 1 0 0 257) (busy .latest), status 2 (.readMeta 2 2) (busy .latest),
        status 2 (.readLine 2 1 1 0 1) (busy .latest), status 2 (.readLine 2 1 0 1 2) (busy .latest)] =
        List.replicate 8 (some .badArg) ∧
      status 2 (.readLine 2 0 4094 8191 256) (busy .latest) = some .badState ∧
      (after (.readLine 2 1 0 0 2) (busy .latest)).link 2 = some ⟨.ok, 1, [1, 0, 0, 0, 1, 0, 2, 1, 0x11, 0x22]⟩ ∧
      response 2 (.readMeta 2 1) (busy .latest) = some [1, 0, 0, 0, 1, 1, 1, 0xAB] := by decide +kernel

/-! ### Ingress -/

theorem witness_FrameStartGetsAPage_allocation :
    (idleAgain .latest 3).inReset = none ∧ ((idleAgain .latest 3).capture 0).laneUp = true ∧ (63#8).toNat ≤ 63 ∧
      ((idleAgain .latest 3).stream 0).binding = some ⟨0, 0⟩ ∧ (idleAgain .latest 3).context 0 0 = .idle ∧
      pageCount (idleAgain .latest 3) 0 < 3 ∧ (idleAgain .latest 3).freeList.head? = some 2 ∧
      (after (.frameStart 0 0 63 9) (idleAgain .latest 3)).context 0 0 = .capturing 2 := by decide
theorem witness_FrameStartGetsAPage_reclaim :
    Coherent (twoReady .latest 2) ∧ pageCount (twoReady .latest 2) 0 = 2 ∧
      ((twoReady .latest 2).stream 0).ready = [⟨1, 1⟩] ++ ⟨2, 2⟩ :: [] ∧
        0 < ((twoReady .latest 2).page 1).holdCount ∧
      ((twoReady .latest 2).page 2).holdCount = 0 ∧
      ((after (.frameStart 0 0 0 0) (twoReady .latest 2)).stream 0).ready = [⟨1, 1⟩] ∧
      ((after (.frameStart 0 0 0 0) (twoReady .latest 2)).stream 0).reclaimed = 1 :=
  ⟨⟨by decide, by decide, by decide, by decide, by decide, by decide, by decide, by decide, by decide, by decide,
    by decide⟩, by decide⟩
theorem witness_FrameStartRejectedSkippedOrAborting :
    (∀ n : StreamNo, ((busy .latest).stream n).binding ≠ some ⟨0, 1⟩) ∧
      (busy .latest).context 0 1 = .discarding ∧
      hasMember ((after (.frameStart 0 1 0 0) (busy .latest)).notice 0).flags 4 = true ∧
      pageCount (idleAgain .latest 1) 0 = ((idleAgain .latest 1).stream 0).quota ∧
      (∀ e ∈ ((idleAgain .latest 1).stream 0).ready, 0 < ((idleAgain .latest 1).page e.page).holdCount) ∧
      ((after (.frameStart 0 0 0 0) (idleAgain .latest 1)).stream 0).skipped = 1 ∧
      ((twoReady .queued 2).stream 0).subscribers ≠ 0 ∧
      ((after (.frameStart 0 0 0 0) (twoReady .queued 2)).stream 0).skipped = 1 ∧
      (busy .latest).context 0 0 = .capturing 0 ∧ (busy .latest).freeList.head? = some 2 ∧
      ((after (.frameStart 0 0 0 0) (busy .latest)).stream 0).aborted = 1 ∧
      (after (.frameStart 0 0 0 0) (busy .latest)).context 0 0 = .capturing 2 := by decide
theorem witness_LinesAndMetadataAreStored :
    ((busy .latest).page 0).state = .filling ∧ ((busy .latest).page 0).producer = some ⟨0, 0⟩ ∧
      ((busy .latest).page 0).lineCount < 4095 ∧ ((busy .latest).page 0).bytesUsed + 1 ≤ 8388608 ∧
      ((after (.line 0 0 1 [0x77] 0x77) (busy .latest)).page 0).damage = 0 ∧
      ((after (.line 0 0 4094 [0x77] 0x78) (busy .latest)).page 0).damage = 0x06 ∧
      ((after (.line 0 0 1 [0x77] 0x77) (busy .latest)).page 0).directory = [2, 1] ∧
      ((after (.line 0 0 1 [0x77] 0x77) ((busy .latest).modPage 0 fun r => { r with bytesUsed :=
        8388608 })).page 0).damage =
        0x01 ∧
      ((after (.sideband 0 0 [1, 2] 3) (busy .latest)).page 0).metadata = some [1, 2] ∧
      ((after (.sideband 0 0 [1, 2] 3) ((busy .latest).modPage 0 fun r =>
        { r with metadata := some (List.replicate 63 0) })).page 0).damage = 0x20 := by decide
theorem witness_PacketsOutsideAFrame :
    ((busy .latest).capture 1).laneUp = false ∧ ((busy .latest).capture 0).laneUp = true ∧
      (busy .latest).context 0 2 = .idle ∧ (busy .latest).context 0 1 = .discarding ∧
      (after (.line 1 0 0 [1] 1) (busy .latest)) = busy .latest ∧
      ((after (.frameStart 0 0 64 0) (busy .latest)).capture 0).formatErrors = 1 ∧
      ((after (.line 0 0 4095 [1] 1) (busy .latest)).capture 0).formatErrors = 1 ∧
      ((after (.frameEnd 0 0 2 0) (busy .latest)).capture 0).formatErrors = 1 ∧
      ((after (.formatError 0) (busy .latest)).capture 0).formatErrors = 1 ∧
      ((after (.frameEnd 0 2 1 4095) (busy .latest)).capture 0).strays = 1 ∧
      ((after (.line 0 2 4094 (List.replicate 33 1) 0) (busy .latest)).capture 0).strays = 1 ∧
      after (.line 0 1 0 (List.replicate 33 1) 0) (busy .latest) = busy .latest ∧
      (after (.frameEnd 0 1 0 0) (busy .latest)).context 0 1 = .idle := by decide
theorem witness_PublicationNumbersThePage :
    (busy .latest).inReset = none ∧ ((busy .latest).capture 0).laneUp = true ∧ (4095#16).toNat ≤ 4095 ∧
      (busy .latest).context 0 0 = .capturing 0 ∧ ((busy .latest).page 0).stream = some 0 ∧
      ((busy .latest).notice 1).watch = some ⟨0, 1⟩ ∧ ((busy .latest).stream 0).lastSequence.getD 0 = 1 ∧
      hasMember ((after (.frameEnd 0 0 0 1) (busy .latest)).notice 1).flags 10 = true ∧
      ((after (.frameEnd 0 0 0 1) (busy .latest)).stream 0).ready = [⟨1, 1⟩, ⟨0, 2⟩] ∧
      ((after (.frameEnd 0 0 0 4095) (busy .latest)).stream 0).damaged = 1 ∧
      ((after (.frameEnd 0 0 0 1) (busy .queued)).stream 0).ready = [⟨1, 1⟩, ⟨0, 2⟩] := by decide
/-- `busy` in QUEUED mode with page 1 taken and left by its one subscriber. -/
def passedPage : State := ((busy .queued).setPage 1 { pageReady with holdCount := 0, holders := 0 }).modEgress 2 fun e =>
  { e with held := none, showing := .blank }

theorem witness_PublicationNumbersThePage_queued :
    Coherent passedPage ∧ PassedByEverySubscriber passedPage 0 1 ∧ ¬ PassedByEverySubscriber passedPage 0 2 ∧
      ((after (.frameEnd 0 0 0 1) passedPage).stream 0).ready = [⟨0, 2⟩] ∧
      ((after (.frameEnd 0 0 0 1) passedPage).page 0).endTime = some 200 ∧
      (after (.frameEnd 0 0 0 1) passedPage).freeList.getLast? = some 1 :=
  ⟨⟨by decide, by decide, by decide, by decide, by decide, by decide, by decide, by decide, by decide, by decide,
    by decide⟩, by decide⟩
theorem witness_AbandonAndLaneLossAbortFrames :
    ((busy .latest).capture 1).laneUp = false ∧ ((busy .latest).capture 0).laneUp = true ∧
      (busy .latest).context 0 0 = .capturing 0 ∧ ((busy .latest).page 0).stream = some 0 ∧
      ((busy .latest).stream 0).owner = some 1 ∧ ((after (.laneUp 1) (busy .latest)).capture 1).laneUp = true ∧
      ((after (.laneDown 0) (busy .latest)).stream 0).aborted = 1 ∧
      ((after (.frameEnd 0 0 1 0) (busy .latest)).notice 1).skipSet = 0x01 := by decide

/-! ### Patterns and notices -/

theorem witness_PatternCommandsWriteLockAndRead :
    (busy .latest).inReset = none ∧ ((busy .latest).pattern 0).lock = true ∧ ((busy .latest).pattern 7).lock =
      false ∧
      ((busy .latest).pattern 7).valid = false ∧ (8192#16).toNat ≤ 8192 ∧ (8#8).toNat ∈ [1, 2, 4, 8] ∧
      status 0 (.writePattern 0 7 2 16 8 8192 (Vector.replicate 16 1)) (busy .latest) = some .ok ∧
      status 0 (.writePattern 0 0 0 1 1 1 (Vector.replicate 16 1)) (busy .latest) = some .denied ∧
      [status 0 (.writePattern 0 8 0 1 1 1 (Vector.replicate 16 1)) (busy .latest),
        status 0 (.writePattern 0 1 3 1 1 1 (Vector.replicate 16 1)) (busy .latest),
        status 0 (.writePattern 0 1 0 17 1 1 (Vector.replicate 16 1)) (busy .latest),
        status 0 (.writePattern 0 1 0 1 3 1 (Vector.replicate 16 1)) (busy .latest),
        status 0 (.writePattern 0 1 0 1 1 8193 (Vector.replicate 16 1)) (busy .latest)] =
        List.replicate 5 (some .badArg) ∧
      status 0 (.lockPattern 0 7) (busy .latest) = some .badState ∧ status 0 (.lockPattern 0 0) (busy .latest) =
        some .ok ∧
      response 0 (.readPattern 0 0) (busy .latest) =
        some [1, 1, 1, 1, 2, 0, 3, 1, 2, 3, 4, 5, 6, 7, 8, 9, 10, 11, 12, 13, 14, 15, 16, 0] := by decide
theorem witness_RaiseSetsTheFlagAndTheLine :
    ((busy .latest).stream 0).owner = some 1 ∧ ((raiseAt 1 .egLost (busy .latest)).notice 1).lineAsserted = true ∧
      ((raiseAt 0 .egLost (busy .latest)).notice 0).lineAsserted = false ∧
      ((raiseOwn .stall 0 (busy .latest)).notice 1).stallSet = 0x01 := by decide
theorem witness_NoticeCommandsReadMaskAndWatch :
    (busy .latest).inReset = none ∧ 2048 ≤ (2048#16).toNat ∧ (2047#16).toNat < 2048 ∧
      status 1 (.setMask 1 2048) (busy .latest) = some .badArg ∧ status 1 (.setMask 1 2047) (busy .latest) =
        some .ok ∧
      status 1 (.setWatch 1 8 0) (busy .latest) = some .badArg ∧
      response 1 (.setWatch 1 0 5) (busy .latest) = some [1, 0, 0, 0, 1] ∧
      response 1 (.setWatch 1 7 5) (busy .latest) = some [0, 0, 0, 0, 0] ∧
      response 1 (.readNotices 1) (busy .latest) = some [0, 0, 0, 0, 0, 0, 7, 0xFF, 1, 0, 0, 0, 0, 1] ∧
      ((after (.clearWatch 1) (busy .latest)).notice 1).watch = none := by decide
theorem witness_NoticesStayUntilRead :
    ¬ isReset (.readId 1) ∧ Instr.readId 1 ≠ .readNotices 1 ∧ Instr.readId 1 ≠ .resetPort 1 ∧
      runs (.readId 1) (raiseOwn .skip 0 (busy .latest)) = true ∧
      hasMember ((raiseOwn .skip 0 (busy .latest)).notice 1).flags 2 = true ∧
      hasMember ((raiseOwn .skip 0 (busy .latest)).notice 1).skipSet 0 = true := by
  refine ⟨?_, by decide⟩
  rintro (h | h) <;> cases h

/-! ### What every step keeps -/

theorem witness_LockedRecordsKeepTheirSettings :
    (match step { locked with pending := [.closeStream 1 0] } with
      | .next _ => true
      | .fault _ => false
      | .refused _ => false) = true ∧
      (locked.pattern 0).lock = true ∧ (locked.stream 0).lock = true ∧ (locked.stream 0).state.isOpen = true ∧
      (locked.egress 2).lock = true := by decide
theorem witness_step_of_busy :
    (match step { busy .latest with pending := [.frameEnd 0 0 0 1] } with
      | .next t => decide (NoticesAgree t) && decide (PagesWellKept t) && decide (FreeListExact t) &&
          decide (CommitmentsFit t) && decide (BindingsAgree t) && decide (SubscriptionsExact t) &&
          decide (EgressesWellKept t) && decide (HoldersExact t) && decide (ContextsExact t)
      | .fault _ => false
      | .refused _ => false) = true := by decide
theorem witness_AllocationAlwaysFindsAPage :
    StreamPagesExact passedPage 0 ∧ EvaluationFrees passedPage 0 ⟨1, 1⟩ ∧
      ((evaluateRelease 0 passedPage).stream 0).ready = [] ∧ ((evaluateRelease 0 passedPage).page 1).state = .free ∧
      ((idleAgain .latest 3).stream 0).state ≠ .closed ∧
      pageCount (idleAgain .latest 3) 0 < ((idleAgain .latest 3).stream 0).quota := by decide

end Sys2Proof.Tests
end

/-! The stores of a CAPTURING context (R9, R10, R57 to R60): what a LINE and a SIDEBAND leave in the page,
and what a failed payload check adds (R59, R60, R70). -/

namespace Sys2Proof.Machine

/-! ### Sets and damage flags -/

theorem hasMember_addMember {n : Nat} (set : BitVec n) (i j : Fin n) :
    hasMember (addMember set i) j = (hasMember set j || decide (j = i)) := by
  have single : (1#n <<< i.val).getLsbD j.val = decide (j = i) := by
    rw [Bool.eq_iff_iff]
    simp only [BitVec.getLsbD_shiftLeft, BitVec.getLsbD_one, Fin.ext_iff, Bool.and_eq_true, Bool.not_eq_true',
      decide_eq_true_eq, decide_eq_false_iff_not]
    omega
  simp only [hasMember, addMember, BitVec.getLsbD_or, single]

theorem hasMember_addDamage (set : BitVec 6) (d : Damage) (when : Bool) (b : Fin 6) :
    hasMember (addDamage set d when) b = (hasMember set b || decide (b = d.bit ∧ when = true)) := by
  cases when <;> simp [addDamage, hasMember_addMember]

/-- A raised flag is set (R156). -/
theorem hasMember_raiseAt_flags (p : Port) (n : Notice) (s : State) :
    hasMember ((raiseAt p n s).notice p).flags n.bit = true := by
  simp [raiseAt, NoticeUnit.raise, NoticeUnit.settle, hasMember_addMember]

/-! ### The report of a failed payload check (R59, R60) -/

/-- The state of a store after its payload check: a failed check is counted and raises IN_FORMAT. -/
def checkReported (p : Port) (good : Bool) (stored : State) : State :=
  if good then stored else payloadError p stored

section checkReported

variable (p : Port) (good : Bool) (t : State)

@[simp] theorem checkReported_good : checkReported p true t = t := rfl

@[simp] theorem checkReported_bad : checkReported p false t = payloadError p t := rfl

@[simp] theorem checkReported_pages : (checkReported p good t).pages = t.pages := by cases good <;> rfl

@[simp] theorem checkReported_page (h : PageNo) : (checkReported p good t).page h = t.page h := by
  simp [State.page]

@[simp] theorem checkReported_streams : (checkReported p good t).streams = t.streams := by cases good <;> rfl

@[simp] theorem checkReported_freeList : (checkReported p good t).freeList = t.freeList := by cases good <;> rfl

@[simp] theorem checkReported_egresses : (checkReported p good t).egresses = t.egresses := by cases good <;> rfl

@[simp] theorem checkReported_pins : (checkReported p good t).pins = t.pins := by cases good <;> rfl

@[simp] theorem checkReported_frameStore : (checkReported p good t).frameStore = t.frameStore := by
  cases good <;> rfl

@[simp] theorem payloadError_payloadErrors :
    ((payloadError p t).capture p).payloadErrors = (t.capture p).payloadErrors + 1 := by
  simp [payloadError, raiseAt]

theorem payloadError_raises : hasMember ((payloadError p t).notice p).flags 5 = true :=
  hasMember_raiseAt_flags p .inFormat _

end checkReported

/-! ### The store a LINE or a SIDEBAND makes -/

theorem payloadGood_of_eq {payload : List Byte} {check : Word16} (h : check = payloadCheck payload) :
    payloadGood payload check = true := decide_eq_true h

theorem payloadGood_of_ne {payload : List Byte} {check : Word16} (h : check ≠ payloadCheck payload) :
    payloadGood payload check = false := decide_eq_false h

theorem lineInRange_iff (number : Word16) (payload : List Byte) :
    lineInRange number payload = true ↔
      number.toNat ≤ 4094 ∧ 1 ≤ payload.length ∧ payload.length ≤ 8192 := by
  simp only [lineInRange, Bool.and_eq_true, decide_eq_true_eq, and_assoc]
  rfl

theorem sidebandInRange_iff (payload : List Byte) :
    sidebandInRange payload = true ↔ 1 ≤ payload.length ∧ payload.length ≤ 32 := by
  simp only [sidebandInRange, Bool.and_eq_true, decide_eq_true_eq]
  rfl

theorem lineFits_iff (r : Page) (length : Nat) :
    lineFits r length = true ↔ r.lineCount < 4095 ∧ r.bytesUsed + length ≤ 8388608 := by
  simp only [lineFits, Bool.and_eq_true, decide_eq_true_eq]
  rfl

/-- GAP when the line number is not the line count (R58), DAMAGED when the check failed (R59). -/
theorem hasMember_withLine_damage (r : Page) (number : Nat) (payload : List Byte) (check : Word16) (b : Fin 6) :
    hasMember (r.withLine number payload.length (payloadGood payload check)).damage b =
      (hasMember r.damage b || decide (b = 2 ∧ number ≠ r.lineCount) ||
        decide (b = 1 ∧ check ≠ payloadCheck payload)) := by
  simp [Page.withLine, hasMember_addDamage, Damage.bit, payloadGood]

/-- A line that fits: its record and its bytes are stored (R9). -/
theorem storeLine_of_fits {g : PageNo} {payload : List Byte} {s : State} (number : Nat) (good : Bool)
    (fits : lineFits (s.page g) payload.length = true) :
    storeLine g number payload good s =
      State.setPage
        { s with frameStore := s.frameStore.writeAll (g.val * 8388608 + (s.page g).bytesUsed) payload } g
        ((s.page g).withLine number payload.length good) :=
  if_pos fits

/-- A line that does not fit: TRUNCATED and no more (R9, R57). -/
theorem storeLine_of_not_fits {g : PageNo} {payload : List Byte} {s : State} (number : Nat) (good : Bool)
    (full : ¬ lineFits (s.page g) payload.length = true) :
    storeLine g number payload good s =
      s.setPage g { s.page g with damage := addMember (s.page g).damage 0 } :=
  if_neg full

/-- A SIDEBAND joins the metadata up to 64 bytes; META_TRUNC when bytes were dropped (R10, R60). -/
theorem Page.withMetadata_eq {r : Page} {payload : List Byte} (good : Bool) (hasBytes : 1 ≤ payload.length)
    (room : (r.metadata.getD []).length ≤ 64) :
    r.withMetadata payload good =
      { r with
        metadata := some ((r.metadata.getD [] ++ payload).take 64)
        damage := addDamage
          (addDamage r.damage .metaTrunc (decide (64 < (r.metadata.getD []).length + payload.length)))
          .damaged (!good) } := by
  have joined : r.metadata.getD [] ++ payload.take (64 - (r.metadata.getD []).length) =
      (r.metadata.getD [] ++ payload).take 64 := by
    rw [List.take_append, List.take_of_length_le room]
  have nonempty : (r.metadata.getD [] ++ payload).take 64 ≠ [] := by
    apply List.ne_nil_of_length_pos
    simp only [List.length_take, List.length_append]
    omega
  have dropped : (payload.take (64 - (r.metadata.getD []).length)).length < payload.length ↔
      64 < (r.metadata.getD []).length + payload.length := by
    rw [List.length_take]
    omega
  simp only [Page.withMetadata, Config.maxMetadata, joined, dropped, if_neg nonempty]

/-- Out of reset and with the lane UP, the context of the pair is CAPTURING page `g`, and the page is FILLING
for that context (R17, R49, R53, R171): what a store needs to be taken. -/
structure CapturesInto (p : Port) (tg : Tag) (g : PageNo) (s : State) : Prop where
  outOfReset : s.inReset = none
  laneUp : (s.capture p).laneUp = true
  context : s.context p tg = .capturing g
  filling : (s.page g).state = .filling
  producer : (s.page g).producer = some ⟨p, tg⟩

section CapturesInto

variable {p : Port} {tg : Tag} {g : PageNo} {s : State}

theorem CapturesInto.captureStore (h : CapturesInto p tg g s) (good : Bool) (stored : State) :
    captureStore p tg g good stored s = checkReported p good stored := by
  have owns : ownsPage p tg g s = true := by simp [ownsPage, h.filling, h.producer]
  exact if_pos owns

/-- A LINE in range is stored and its check reported (R57, R59). -/
theorem CapturesInto.exec_line (h : CapturesInto p tg g s) {number : Word16} {payload : List Byte}
    (check : Word16) (inRange : lineInRange number payload = true) :
    exec (.line p tg number payload check) s =
      .next (checkReported p (payloadGood payload check)
        (storeLine g number.toNat payload (payloadGood payload check) s)) := by
  change execLine p tg number payload check s = _
  simp only [execLine, onLane_taken h.outOfReset h.laneUp, if_pos inRange, takeLine, h.context, h.captureStore]

/-- A SIDEBAND in range is stored and its check reported (R60). -/
theorem CapturesInto.exec_sideband (h : CapturesInto p tg g s) {payload : List Byte} (check : Word16)
    (inRange : sidebandInRange payload = true) :
    exec (.sideband p tg payload check) s =
      .next (checkReported p (payloadGood payload check)
        (s.setPage g ((s.page g).withMetadata payload (payloadGood payload check)))) := by
  change execSideband p tg payload check s = _
  simp only [execSideband, onLane_taken h.outOfReset h.laneUp, if_pos inRange, takeSideband, h.context,
    h.captureStore, State.modPage_eq]

end CapturesInto

/-- What the report leaves and adds, for a store that touched neither capture units nor notices. -/
theorem checkReported_report {p : Port} {payload : List Byte} {check : Word16} {s stored : State}
    (captures : stored.captures = s.captures) (notices : stored.notices = s.notices) :
    (check = payloadCheck payload →
        (checkReported p (payloadGood payload check) stored).captures = s.captures ∧
          (checkReported p (payloadGood payload check) stored).notices = s.notices) ∧
      (check ≠ payloadCheck payload →
        ((checkReported p (payloadGood payload check) stored).capture p).payloadErrors =
            (s.capture p).payloadErrors + 1 ∧
          hasMember ((checkReported p (payloadGood payload check) stored).notice p).flags 5 = true) := by
  constructor
  · intro good
    rw [payloadGood_of_eq good]
    exact ⟨captures, notices⟩
  · intro bad
    rw [payloadGood_of_ne bad]
    have same : stored.capture p = s.capture p := by simp only [State.capture, captures]
    exact ⟨by rw [checkReported_bad, payloadError_payloadErrors, same], payloadError_raises p stored⟩

/-- Settles O43: each packet is its store with the check reported (`exec_line`, `exec_sideband`); the stores are
`storeLine_of_fits`, `storeLine_of_not_fits` and `Page.withMetadata_eq`. -/
theorem linesAndMetadataAreStored : Obligations.LinesAndMetadataAreStored := by
  rintro p tg number check payload s g r out up capturing rfl filling producer hasBytes
  have into : CapturesInto p tg g s := ⟨out, up, capturing, filling, producer⟩
  constructor
  · intro short inPage
    have run := into.exec_line check ((lineInRange_iff number payload).2 ⟨inPage, hasBytes, short⟩)
    constructor
    · intro full
      have unfit : ¬ lineFits (s.page g) payload.length = true := by
        rw [lineFits_iff]
        omega
      rw [storeLine_of_not_fits _ _ unfit] at run
      constructor
      · intro good
        rw [payloadGood_of_eq good] at run
        exact run
      · intro bad
        rw [payloadGood_of_ne bad] at run
        exact run
    · intro count bytes
      rw [storeLine_of_fits _ _ ((lineFits_iff _ _).2 ⟨count, bytes⟩)] at run
      refine ⟨_, run, ?_, fun b => ?_, ?_, fun h other => ?_, ?_, ?_, ?_, ?_, checkReported_report rfl rfl⟩
      · simp [Page.withLine]
      · simp [hasMember_withLine_damage]
      · simp
      · simp [State.setPage_page_ne _ _ other.symm]
      all_goals simp
  · intro short room
    have run := into.exec_sideband check ((sidebandInRange_iff payload).2 ⟨hasBytes, short⟩)
    rw [Page.withMetadata_eq _ hasBytes room] at run
    refine ⟨_, run, ?_, fun b => ?_, fun h other => ?_, ?_, ?_, ?_, checkReported_report rfl rfl⟩
    · simp
    · simp [hasMember_addDamage, Damage.bit, payloadGood]
    · simp [State.setPage_page_ne _ _ other.symm]
    all_goals simp

end Sys2Proof.Machine

/-! OPEN_STREAM (R28, R29): what its argument bytes name, which test of R28 refuses it, and the record it sets. -/

namespace Sys2Proof.Machine

/-! ### Argument bytes (R173) -/

theorem argBelow_eq_some_iff {n : Nat} {b : Byte} {i : Fin n} : argBelow n b = some i ↔ b.toNat = i.val := by
  unfold argBelow
  split
  · simp [Fin.ext_iff]
  · next tooHigh =>
    have : b.toNat ≠ i.val := fun same => tooHigh (same ▸ i.isLt)
    simp [this]

@[simp] theorem argMode_code (m : Mode) : argMode m.code = some m := by cases m <;> rfl

theorem eq_code_of_argMode {b : Byte} {m : Mode} (h : argMode b = some m) : b = m.code := by
  unfold argMode at h
  split at h
  case h_1 zero => cases h; exact BitVec.eq_of_toNat_eq zero
  case h_2 one => cases h; exact BitVec.eq_of_toNat_eq one
  case h_3 => cases h

theorem Mode.code_toNat_lt (m : Mode) : m.code.toNat < 2 := by cases m <;> decide

/-- The bytes 0 and 1 are the codes of the two modes. -/
theorem exists_eq_mode_code {b : Byte} (h : b.toNat < 2) : ∃ m : Mode, b = m.code := by
  have zeroOrOne : b.toNat = 0 ∨ b.toNat = 1 := by omega
  obtain zero | one := zeroOrOne
  · exact ⟨.latest, BitVec.eq_of_toNat_eq zero⟩
  · exact ⟨.queued, BitVec.eq_of_toNat_eq one⟩

theorem streamValuesInRange_iff (quota : Byte) (lines timeout : Word16) :
    streamValuesInRange quota lines timeout = true ↔
      1 ≤ quota.toNat ∧ quota.toNat ≤ 8 ∧ lines.toNat ≤ 4095 ∧ timeout.toNat ≤ 4095 := by
  simp [streamValuesInRange, between, and_assoc]

/-! ### Bindings (R26) -/

theorem mem_allStreams (n : StreamNo) : n ∈ allStreams := by revert n; decide

/-- The table finds a stream for the pair exactly when some stream is bound to it (R26). -/
theorem boundStream_isSome_iff (s : State) (pr : Pair) :
    (boundStream s pr).isSome = true ↔ ∃ n : StreamNo, (s.stream n).binding = some pr := by
  simp [boundStream, List.find?_isSome, mem_allStreams]

/-! ### Tests 2 to 5 of R28, and the effect of R29 -/

section openStream

variable {p : Port} {st : StreamNo} {pr : Pair} {mode : Mode} {quota lines timeout : Nat} {s : State}

theorem openStream_of_hold (hold : s.cfgHold = true) :
    openStream p st pr mode quota lines timeout s = .refuse .denied :=
  if_pos hold

theorem openStream_of_not_closed (noHold : s.cfgHold = false) (inUse : (s.stream st).state ≠ .closed) :
    openStream p st pr mode quota lines timeout s = .refuse .badState := by
  simp [openStream, noHold, inUse]

theorem openStream_of_bound (noHold : s.cfgHold = false) (closed : (s.stream st).state = .closed)
    (bound : ∃ n : StreamNo, (s.stream n).binding = some pr) :
    openStream p st pr mode quota lines timeout s = .refuse .badState := by
  simp [openStream, noHold, closed, (boundStream_isSome_iff s pr).2 bound]

/-- Past the binding test only the committed sum decides (R27). -/
theorem openStream_of_unbound (noHold : s.cfgHold = false) (closed : (s.stream st).state = .closed)
    (unbound : ∀ n : StreamNo, (s.stream n).binding ≠ some pr) :
    openStream p st pr mode quota lines timeout s =
      if 16 < committedSum s + quota then .refuse .noRoom
      else .ok (s.setStream st (Stream.opened p pr mode quota lines timeout)) [] := by
  have notFound : ¬ (boundStream s pr).isSome = true := by
    rw [boundStream_isSome_iff]
    exact fun ⟨n, bound⟩ => unbound n bound
  simp only [openStream, noHold, closed, notFound]
  rfl

end openStream

/-! ### The range test (test 1 of R28) -/

section execOpenStream

variable {p : Port} {stream producer tag quota : Byte} {lines timeout : Word16} {s : State}

/-- Out of reset and with every argument in range, OPEN_STREAM is decided by tests 2 to 5. -/
theorem exec_openStream_of_inRange {st : StreamNo} {pr : Pair} (mode : Mode) (out : s.inReset = none)
    (hst : stream.toNat = st.val) (hport : producer.toNat = pr.port.val) (htag : tag.toNat = pr.tag.val)
    (values : streamValuesInRange quota lines timeout = true) :
    exec (.openStream p stream producer tag mode.code quota lines timeout) s =
      answered p s (openStream p st pr mode quota.toNat lines.toNat timeout.toNat s) := by
  change execOpenStream p stream producer tag mode.code quota lines timeout s = _
  simp only [execOpenStream, onLink_taken out, argBelow_eq_some_iff.2 hst, argBelow_eq_some_iff.2 hport,
    argBelow_eq_some_iff.2 htag, argMode_code, if_pos values]

/-- Out of reset, OPEN_STREAM with an argument out of range answers BAD_ARG. -/
theorem exec_openStream_of_outOfRange {mode : Byte} (out : s.inReset = none)
    (bad : ¬ (stream.toNat < 8 ∧ producer.toNat < 4 ∧ tag.toNat < 4 ∧ mode.toNat < 2 ∧
      streamValuesInRange quota lines timeout = true)) :
    exec (.openStream p stream producer tag mode quota lines timeout) s = .next (s.refusedWith p .badArg) := by
  change execOpenStream p stream producer tag mode quota lines timeout s = _
  rw [execOpenStream, onLink_taken out]
  split
  case h_1 st pp tg md hst hport htag hmode =>
    have values : ¬ streamValuesInRange quota lines timeout = true := fun values =>
      bad ⟨argBelow_eq_some_iff.1 hst ▸ st.isLt, argBelow_eq_some_iff.1 hport ▸ pp.isLt,
        argBelow_eq_some_iff.1 htag ▸ tg.isLt, eq_code_of_argMode hmode ▸ md.code_toNat_lt, values⟩
    rw [if_neg values]
    rfl
  case h_2 => rfl

end execOpenStream

/-- Settles O17: the range test is `exec_openStream_of_outOfRange`; with the arguments in range the answer is that
of `openStream`, whose tests are taken in order. -/
theorem openStreamRefusesInOrder : Obligations.OpenStreamRefusesInOrder := by
  intro p stream producer tag mode quota lines timeout s out
  constructor
  · intro bad
    apply exec_openStream_of_outOfRange out
    rw [streamValuesInRange_iff]
    omega
  · intro st pr hst hport htag hmode quotaLow quotaHigh linesHigh timeoutHigh
    obtain ⟨md, rfl⟩ := exists_eq_mode_code hmode
    have values := (streamValuesInRange_iff quota lines timeout).2 ⟨quotaLow, quotaHigh, linesHigh, timeoutHigh⟩
    rw [exec_openStream_of_inRange md out hst hport htag values]
    refine ⟨fun hold => ?_, fun noHold inUse => ?_, fun noHold closed bound => ?_, fun noHold closed unbound full => ?_⟩
    · rw [openStream_of_hold hold]
      rfl
    · rw [openStream_of_not_closed noHold inUse]
      rfl
    · rw [openStream_of_bound noHold closed bound]
      rfl
    · rw [openStream_of_unbound noHold closed unbound, if_pos full]
      rfl

/-- Settles O16: past every test the record is `Stream.opened`, with the timer loaded as R40 says. -/
theorem openStreamSetsTheRecord : Obligations.OpenStreamSetsTheRecord := by
  intro p stream producer tag quota lines timeout mode s st pr hst hport htag quotaLow quotaHigh linesHigh
    timeoutHigh out noHold closed unbound room
  have values := (streamValuesInRange_iff quota lines timeout).2 ⟨quotaLow, quotaHigh, linesHigh, timeoutHigh⟩
  rw [exec_openStream_of_inRange mode out hst hport htag values, openStream_of_unbound noHold closed unbound,
    if_neg (Nat.not_lt.2 room)]
  rfl

end Sys2Proof.Machine

/-! The frames that end without publication (R62, R66, R67, R85): what an abort leaves in the page, the stream and
the owner's notices, the abort of every context of a lane that is lost, and the lane's return. -/

namespace Sys2Proof.Machine

/-! ### Notices only join (R156) -/

section raiseOwn

variable (n : OwnNotice) (st : StreamNo) (s : State)

@[simp] theorem raiseOwn_pages : (raiseOwn n st s).pages = s.pages := by
  unfold raiseOwn
  split <;> rfl

@[simp] theorem raiseOwn_page (h : PageNo) : (raiseOwn n st s).page h = s.page h := by simp [State.page]

@[simp] theorem raiseOwn_streams : (raiseOwn n st s).streams = s.streams := by
  unfold raiseOwn
  split <;> rfl

@[simp] theorem raiseOwn_stream (m : StreamNo) : (raiseOwn n st s).stream m = s.stream m := by simp [State.stream]

end raiseOwn

/-- OWN_SKIP lands at the owner with the stream in its set (R25, R156). -/
theorem raiseOwn_skip_raises {st : StreamNo} {o : Port} {s : State} (owner : (s.stream st).owner = some o) :
    hasMember ((raiseOwn .skip st s).notice o).flags 2 = true ∧
      hasMember ((raiseOwn .skip st s).notice o).skipSet st = true := by
  simp [raiseOwn, owner, NoticeUnit.raise, NoticeUnit.settle, NoticeUnit.joinSet, OwnNotice.bit,
    hasMember_addMember]

/-- No flag and no member of an OWN_SKIP set is lost from `s` to `t`. -/
structure NoticesGrow (s t : State) : Prop where
  flags : ∀ (p : Port) (b : Fin 11), hasMember (s.notice p).flags b = true → hasMember (t.notice p).flags b = true
  skipSet : ∀ (p : Port) (st : StreamNo),
    hasMember (s.notice p).skipSet st = true → hasMember (t.notice p).skipSet st = true

theorem NoticesGrow.refl (s : State) : NoticesGrow s s := ⟨fun _ _ => id, fun _ _ => id⟩

theorem NoticesGrow.trans {s t u : State} (h : NoticesGrow s t) (k : NoticesGrow t u) : NoticesGrow s u :=
  ⟨fun p b => k.flags p b ∘ h.flags p b, fun p st => k.skipSet p st ∘ h.skipSet p st⟩

theorem NoticesGrow.of_notices {s t : State} (h : t.notices = s.notices) : NoticesGrow s t := by
  constructor <;> simp [State.notice, h]

theorem NoticesGrow.setNotice {s : State} {q : Port} {u : NoticeUnit}
    (flags : ∀ b, hasMember (s.notice q).flags b = true → hasMember u.flags b = true)
    (skipSet : ∀ st, hasMember (s.notice q).skipSet st = true → hasMember u.skipSet st = true) :
    NoticesGrow s (s.setNotice q u) := by
  constructor
  all_goals
    intro p
    rw [State.setNotice_notice]
    split
  · next e => exact e ▸ flags
  · exact fun _ => id
  · next e => exact e ▸ skipSet
  · exact fun _ => id

theorem NoticesGrow.raiseAt (p : Port) (n : Notice) (s : State) : NoticesGrow s (raiseAt p n s) :=
  .setNotice (fun b set => by simp [NoticeUnit.raise, NoticeUnit.settle, hasMember_addMember, set]) fun _ => id

theorem NoticesGrow.raiseOwn (n : OwnNotice) (st : StreamNo) (s : State) : NoticesGrow s (raiseOwn n st s) := by
  unfold Machine.raiseOwn
  split
  · exact .refl s
  · refine .setNotice (fun b set => ?_) fun m set => ?_
    all_goals cases n <;>
      simp [NoticeUnit.raise, NoticeUnit.settle, NoticeUnit.joinSet, hasMember_addMember, set]

/-! ### The abort of one frame (R85) -/

section clearToFree

variable (g : PageNo) (s : State)

theorem clearToFree_page (h : PageNo) : (clearToFree g s).page h = if g = h then Page.cleared else s.page h :=
  State.setPage_page ..

@[simp] theorem clearToFree_stream (n : StreamNo) : (clearToFree g s).stream n = s.stream n := rfl

@[simp] theorem clearToFree_notices : (clearToFree g s).notices = s.notices := rfl

end clearToFree

/-- The stream table after the abort of a frame in page `g`: the page freed, the filling page absent, the abort
counted and OWN_SKIP raised (R85). -/
def frameAborted (g : PageNo) (st : StreamNo) (s : State) : State :=
  raiseOwn .skip st ((clearToFree g s).setStream st
    { s.stream st with filling := none, aborted := (s.stream st).aborted + 1 })

section frameAborted

variable (g : PageNo) (st : StreamNo) (s : State)

theorem frameAborted_page (h : PageNo) :
    (frameAborted g st s).page h = if g = h then Page.cleared else s.page h := by
  simp [frameAborted, clearToFree_page]

@[simp] theorem frameAborted_stream_self :
    (frameAborted g st s).stream st =
      { s.stream st with filling := none, aborted := (s.stream st).aborted + 1 } := by
  simp [frameAborted]

theorem frameAborted_stream_ne {n : StreamNo} (ne : st ≠ n) : (frameAborted g st s).stream n = s.stream n := by
  simp [frameAborted, State.setStream_stream_ne _ _ ne]

theorem NoticesGrow.frameAborted : NoticesGrow s (frameAborted g st s) :=
  (NoticesGrow.of_notices (clearToFree_notices g s)).trans <|
    (NoticesGrow.of_notices (State.setStream_notices ..)).trans (.raiseOwn ..)

theorem frameAborted_raises {o : Port} (owner : (s.stream st).owner = some o) :
    hasMember ((frameAborted g st s).notice o).flags 2 = true ∧
      hasMember ((frameAborted g st s).notice o).skipSet st = true :=
  raiseOwn_skip_raises (by simpa using owner)

end frameAborted

section abortFrame

variable {g : PageNo} {st : StreamNo} {s : State}

theorem abortFrame_of_filling (filling : (s.page g).state = .filling) (inStream : (s.page g).stream = some st) :
    abortFrame g s = frameAborted g st s := by
  simp only [abortFrame, freeFilling, if_pos filling, inStream]
  rfl

/-- The free of a FILLING page that no stream has (R14). -/
theorem abortFrame_of_no_stream (filling : (s.page g).state = .filling) (noStream : (s.page g).stream = none) :
    abortFrame g s = clearToFree g s := by
  simp only [abortFrame, freeFilling, if_pos filling, noStream]

/-- A page that is no longer FILLING: the free is declined and nothing is counted (R17). -/
theorem abortFrame_of_not_filling (other : (s.page g).state ≠ .filling) : abortFrame g s = s := if_neg other

variable (g s)

/-- What an abort can do: nothing, a free alone, or all that R85 names. -/
theorem abortFrame_cases :
    ((s.page g).state ≠ .filling ∧ abortFrame g s = s) ∨
      ((s.page g).state = .filling ∧ (s.page g).stream = none ∧ abortFrame g s = clearToFree g s) ∨
      ∃ st, (s.page g).state = .filling ∧ (s.page g).stream = some st ∧
        abortFrame g s = frameAborted g st s := by
  by_cases filling : (s.page g).state = .filling
  · cases inStream : (s.page g).stream with
    | none => exact .inr (.inl ⟨filling, rfl, abortFrame_of_no_stream filling inStream⟩)
    | some st => exact .inr (.inr ⟨st, filling, rfl, abortFrame_of_filling filling inStream⟩)
  · exact .inl ⟨filling, abortFrame_of_not_filling filling⟩

/-- The aborted page is cleared if it was FILLING; every other page is kept (R14, R17). -/
theorem abortFrame_page (h : PageNo) :
    (abortFrame g s).page h = if g = h ∧ (s.page g).state = .filling then Page.cleared else s.page h := by
  rcases abortFrame_cases g s with ⟨other, run⟩ | ⟨filling, -, run⟩ | ⟨st, filling, -, run⟩
  · simp [run, other]
  · simp [run, filling, clearToFree_page]
  · simp [run, filling, frameAborted_page]

/-- An abort touches the record of no stream but the page's. -/
theorem abortFrame_stream_of_ne {n : StreamNo} (other : (s.page g).stream ≠ some n) :
    (abortFrame g s).stream n = s.stream n := by
  rcases abortFrame_cases g s with ⟨-, run⟩ | ⟨-, -, run⟩ | ⟨st, -, inStream, run⟩
  · rw [run]
  · simp [run]
  · have ne : st ≠ n := by
      rintro rfl
      exact other inStream
    rw [run, frameAborted_stream_ne g st s ne]

theorem NoticesGrow.abortFrame : NoticesGrow s (abortFrame g s) := by
  rcases abortFrame_cases g s with ⟨-, run⟩ | ⟨-, -, run⟩ | ⟨st, -, -, run⟩
  · rw [run]
    exact .refl s
  · rw [run]
    exact .of_notices (clearToFree_notices g s)
  · rw [run]
    exact .frameAborted g st s

end abortFrame

/-! ### The aborts of several contexts of a port (R66) -/

section abortContext

variable {p : Port} {tg : Tag} {g : PageNo} {st : StreamNo} {s : State}

theorem abortContext_of_capturing (capturing : s.context p tg = .capturing g) :
    abortContext p tg s = abortFrame g s := by
  simp only [abortContext, capturing]

/-- The abort of a context is that of the frame it has open, or nothing. -/
theorem abortContext_cases (p : Port) (tg : Tag) (s : State) :
    (∃ g, s.context p tg = .capturing g ∧ abortContext p tg s = abortFrame g s) ∨ abortContext p tg s = s := by
  unfold abortContext
  split
  · next g capturing => exact .inl ⟨g, capturing, rfl⟩
  · exact .inr rfl

/-- An abort keeps every page record or clears it; a page that is not FILLING is kept. -/
theorem abortContext_page (p : Port) (tg : Tag) (s : State) (h : PageNo) :
    (abortContext p tg s).page h = s.page h ∨
      ((s.page h).state = .filling ∧ (abortContext p tg s).page h = Page.cleared) := by
  rcases abortContext_cases p tg s with ⟨g, -, run⟩ | run
  · rw [run, abortFrame_page]
    split
    · next aborted =>
      obtain ⟨rfl, filling⟩ := aborted
      exact .inr ⟨filling, rfl⟩
    · exact .inl rfl
  · exact .inl (by rw [run])

theorem NoticesGrow.abortContext (p : Port) (tg : Tag) (s : State) : NoticesGrow s (abortContext p tg s) := by
  rcases abortContext_cases p tg s with ⟨g, -, run⟩ | run
  · rw [run]
    exact .abortFrame g s
  · rw [run]
    exact .refl s

/-- The frame that context `tg` of port `p` has open, if any, is neither page `g` nor a frame of stream `st`. -/
def AbortsElsewhere (p : Port) (g : PageNo) (st : StreamNo) (s : State) (tg : Tag) : Prop :=
  ∀ h, s.context p tg = .capturing h → h ≠ g ∧ (s.page h).stream ≠ some st

/-- An abort elsewhere leaves the page and the stream as they were. -/
theorem AbortsElsewhere.keeps (elsewhere : AbortsElsewhere p g st s tg) :
    (abortContext p tg s).page g = s.page g ∧ (abortContext p tg s).stream st = s.stream st := by
  rcases abortContext_cases p tg s with ⟨h, capturing, run⟩ | run
  · obtain ⟨otherPage, otherStream⟩ := elsewhere h capturing
    rw [run, abortFrame_page, if_neg fun aborted => otherPage aborted.1, abortFrame_stream_of_ne h s otherStream]
    exact ⟨rfl, rfl⟩
  · rw [run]
    exact ⟨rfl, rfl⟩

/-- The abort of another context brings no context to the page or the stream. -/
theorem AbortsElsewhere.after_abort (elsewhere : AbortsElsewhere p g st s tg) (other : Tag) :
    AbortsElsewhere p g st (abortContext p other s) tg := by
  intro h capturing
  rw [(PoolOnly.abortContext ..).context] at capturing
  obtain ⟨otherPage, otherStream⟩ := elsewhere h capturing
  refine ⟨otherPage, ?_⟩
  rcases abortContext_page p other s h with kept | ⟨-, cleared⟩
  · rwa [kept]
  · rw [cleared]
    exact nofun

/-- The aborts of several contexts of a port, in order. -/
def abortContexts (p : Port) (tags : List Tag) (s : State) : State := tags.foldl (fun s t => abortContext p t s) s

theorem PoolOnly.abortContexts (p : Port) (tags : List Tag) (s : State) : PoolOnly s (abortContexts p tags s) :=
  .foldl (fun s t => .abortContext p t s) tags s

theorem NoticesGrow.abortContexts (p : Port) (tags : List Tag) (s : State) :
    NoticesGrow s (abortContexts p tags s) := by
  induction tags generalizing s with
  | nil => exact .refl s
  | cons t rest ih => exact (NoticesGrow.abortContext p t s).trans (ih _)

/-- Aborts never touch a READY page (R17). -/
theorem abortContexts_page_of_ready {h : PageNo} (tags : List Tag) (ready : (s.page h).state = .ready) :
    (abortContexts p tags s).page h = s.page h := by
  induction tags generalizing s with
  | nil => rfl
  | cons t rest ih =>
    have kept : (abortContext p t s).page h = s.page h :=
      (abortContext_page p t s h).resolve_right fun ⟨filling, _⟩ => by simp [ready] at filling
    exact (ih (by rwa [kept])).trans kept

/-- Aborts elsewhere leave the page and the stream as they were. -/
theorem abortContexts_keeps (tags : List Tag) (elsewhere : ∀ t ∈ tags, AbortsElsewhere p g st s t) :
    (abortContexts p tags s).page g = s.page g ∧ (abortContexts p tags s).stream st = s.stream st := by
  induction tags generalizing s with
  | nil => exact ⟨rfl, rfl⟩
  | cons t rest ih =>
    obtain ⟨page, stream⟩ := (elsewhere t (List.mem_cons_self ..)).keeps
    obtain ⟨restPage, restStream⟩ := ih fun u mem => (elsewhere u (List.mem_cons_of_mem _ mem)).after_abort t
    exact ⟨restPage.trans page, restStream.trans stream⟩

/-- In a list of contexts of which one alone has the page or a frame of its stream, the aborts clear the page,
count one abort of the stream and raise OWN_SKIP at its owner (R85). -/
theorem abortContexts_of_mem {tags : List Tag} {o : Port} (mem : tg ∈ tags) (nodup : tags.Nodup)
    (capturing : s.context p tg = .capturing g) (filling : (s.page g).state = .filling)
    (inStream : (s.page g).stream = some st) (owner : (s.stream st).owner = some o)
    (elsewhere : ∀ t ≠ tg, AbortsElsewhere p g st s t) :
    (abortContexts p tags s).page g = Page.cleared ∧
      (abortContexts p tags s).stream st =
        { s.stream st with filling := none, aborted := (s.stream st).aborted + 1 } ∧
      hasMember ((abortContexts p tags s).notice o).flags 2 = true ∧
      hasMember ((abortContexts p tags s).notice o).skipSet st = true := by
  induction tags generalizing s with
  | nil => simp at mem
  | cons t rest ih =>
    obtain ⟨fresh, restNodup⟩ := List.nodup_cons.1 nodup
    have later : ∀ u ≠ tg, AbortsElsewhere p g st (abortContext p t s) u := fun u ne =>
      (elsewhere u ne).after_abort t
    by_cases first : t = tg
    · subst first
      have run := (abortContext_of_capturing capturing).trans (abortFrame_of_filling filling inStream)
      obtain ⟨page, stream⟩ := abortContexts_keeps rest fun u mem => later u (ne_of_mem_of_not_mem mem fresh)
      have grown := NoticesGrow.abortContexts p rest (abortContext p t s)
      have raised : hasMember ((abortContext p t s).notice o).flags 2 = true ∧
          hasMember ((abortContext p t s).notice o).skipSet st = true := by
        rw [run]
        exact frameAborted_raises g st s owner
      refine ⟨page.trans ?_, stream.trans ?_, grown.flags o 2 raised.1, grown.skipSet o st raised.2⟩
      · simp [run, frameAborted_page]
      · simp [run]
    · obtain ⟨page, stream⟩ := (elsewhere t first).keeps
      have inRest : tg ∈ rest := (List.mem_cons.1 mem).resolve_left (Ne.symm first)
      have aborted := ih inRest restNodup (by rwa [(PoolOnly.abortContext ..).context]) (by rwa [page])
        (by rwa [page]) (by rwa [stream]) later
      rwa [stream] at aborted

end abortContext

/-! ### Open frames of a coherent state (R26, R53) -/

section Coherent

variable {p : Port} {tg : Tag} {g : PageNo} {s : State}

theorem Coherent.filling_of_capturing (coherent : Coherent s) (capturing : s.context p tg = .capturing g) :
    (s.page g).state = .filling :=
  ((coherent.contexts p tg g).1.1 capturing).1

/-- Two contexts have neither a page nor a stream in common: the page carries the one producer of its context,
and the stream is bound to one pair. -/
theorem Coherent.abortsElsewhere {st : StreamNo} (coherent : Coherent s)
    (capturing : s.context p tg = .capturing g) (inStream : (s.page g).stream = some st) {t : Tag} (ne : t ≠ tg) :
    AbortsElsewhere p g st s t := by
  intro h other
  constructor
  · rintro rfl
    have produced := ((coherent.contexts p tg h).1.1 capturing).2
    rw [((coherent.contexts p t h).1.1 other).2] at produced
    simp [ne] at produced
  · intro sameStream
    obtain ⟨st', inStream', bound⟩ := (coherent.contexts p tg g).2 capturing
    obtain ⟨st'', inStream'', otherBound⟩ := (coherent.contexts p t h).2 other
    obtain rfl : st = st' := by simpa [inStream] using inStream'
    obtain rfl : st = st'' := by simpa [sameStream] using inStream''
    simp [bound, ne.symm] at otherBound

end Coherent

/-! ### The three events (R62, R66, R67) -/

section execLane

variable {p : Port} {s : State}

theorem exec_laneUp (out : s.inReset = none) :
    exec (.laneUp p) s = .next (s.setCapture p { s.capture p with laneUp := true }) :=
  outOfReset_taken out _

/-- The state in which a lost lane leaves the part: every context's frame aborted, the capture unit with the lane
DOWN and its contexts IDLE, and IN_LANE raised (R66). -/
theorem laneLost_eq (p : Port) (s : State) :
    laneLost p s = raiseAt p .inLane ((abortContexts p allTags s).setCapture p
      { s.capture p with
        laneUp := false, contexts := Vector.replicate 4 .idle, laneDowns := (s.capture p).laneDowns + 1 }) := by
  rw [← (PoolOnly.abortContexts p allTags s).capture p]
  rfl

theorem exec_laneDown (out : s.inReset = none) (up : (s.capture p).laneUp = true) :
    exec (.laneDown p) s = .next (laneLost p s) :=
  onLane_taken out up _

@[simp] theorem laneLost_capture (p : Port) (s : State) :
    (laneLost p s).capture p =
      { s.capture p with
        laneUp := false, contexts := Vector.replicate 4 .idle, laneDowns := (s.capture p).laneDowns + 1 } := by
  simp [laneLost_eq, raiseAt]

@[simp] theorem laneLost_context (p : Port) (tg : Tag) (s : State) : (laneLost p s).context p tg = .idle := by
  simp [State.context]

@[simp] theorem laneLost_page (p : Port) (s : State) (h : PageNo) :
    (laneLost p s).page h = (abortContexts p allTags s).page h := by
  simp [laneLost_eq, raiseAt]

@[simp] theorem laneLost_stream (p : Port) (s : State) (n : StreamNo) :
    (laneLost p s).stream n = (abortContexts p allTags s).stream n := by
  simp [laneLost_eq, raiseAt]

theorem NoticesGrow.laneLost (p : Port) (s : State) :
    NoticesGrow (Machine.abortContexts p allTags s) (Machine.laneLost p s) := by
  rw [laneLost_eq]
  exact (NoticesGrow.of_notices (State.setCapture_notices ..)).trans (.raiseAt ..)

theorem laneLost_raises (p : Port) (s : State) : hasMember ((laneLost p s).notice p).flags 6 = true := by
  rw [laneLost_eq]
  exact hasMember_raiseAt_flags p .inLane _

@[simp] theorem laneLost_frameStore (p : Port) (s : State) : (laneLost p s).frameStore = s.frameStore := by
  simp [laneLost_eq, raiseAt, (PoolOnly.abortContexts p allTags s).frameStore]

/-- FRAME_END ABANDON with its claimed count in range, at a CAPTURING context (R62). -/
theorem exec_frameEnd_abandon {tg : Tag} {g : PageNo} {claimed : Word16} (out : s.inReset = none)
    (up : (s.capture p).laneUp = true) (inRange : claimed.toNat ≤ 4095)
    (capturing : s.context p tg = .capturing g) :
    exec (.frameEnd p tg 1 claimed) s = .next ((abortFrame g s).setContext p tg .idle) := by
  have fields : frameEndInRange 1 claimed = true := decide_eq_true inRange
  change execFrameEnd p tg 1 claimed s = _
  rw [execFrameEnd, onLane_taken out up, if_pos fields]
  simp [takeFrameEnd, capturing]

end execLane

theorem mem_allTags (t : Tag) : t ∈ allTags := by revert t; decide

theorem allTags_nodup : allTags.Nodup := by decide

/-- Settles O46: LANE_UP is `exec_laneUp`; LANE_DOWN is the abort of each context in turn, of which only the
frame's own touches its page and stream (`abortContexts_of_mem`, `Coherent.abortsElsewhere`); ABANDON is one abort. -/
theorem abandonAndLaneLossAbortFrames : Obligations.AbandonAndLaneLossAbortFrames := by
  intro p s out
  refine ⟨fun _ => exec_laneUp out, fun up coherent => ⟨⟨laneLost p s, exec_laneDown out up, ?_, ?_, ?_,
    laneLost_raises p s, ?_, fun h ready => ?_, laneLost_frameStore p s⟩, ?_⟩⟩
  · simp
  · simp
  · simp
  · intro tg g st o capturing inStream owner
    obtain ⟨page, stream, flag, inSet⟩ := abortContexts_of_mem (mem_allTags tg) allTags_nodup capturing
      (coherent.filling_of_capturing capturing) inStream owner
      fun t ne => coherent.abortsElsewhere capturing inStream ne
    have grown := NoticesGrow.laneLost p s
    rw [laneLost_page, laneLost_stream, page, stream]
    exact ⟨rfl, rfl, rfl, rfl, rfl, rfl, grown.flags o 2 flag, grown.skipSet o st inSet⟩
  · rw [laneLost_page, abortContexts_page_of_ready allTags ready]
  · intro tg claimed g st inRange capturing inStream
    rw [exec_frameEnd_abandon out up inRange capturing,
      abortFrame_of_filling (coherent.filling_of_capturing capturing) inStream]
    rfl

end Sys2Proof.Machine

/-! SET_TIMING (R97): what its argument bytes name, which of its two tests refuses it, and the timing it stores. -/

namespace Sys2Proof.Machine

/-! ### The timing set the arguments name (R96) -/

section argTiming

variable {period active total lineBytes : Word16} {back front tag : Byte}

/-- The upper bounds of the line period and of the active lines need no hypothesis: the first is the width of a
word, the second follows from T covering A + B + F. -/
theorem argTiming_of_inRange {tg : Tag} (htag : tag.toNat = tg.val) (periodLow : 100 ≤ period.toNat)
    (activeLow : 1 ≤ active.toNat) (covers : active.toNat + back.toNat + front.toNat ≤ total.toNat)
    (totalHigh : total.toNat ≤ 4095) (bytesLow : 1 ≤ lineBytes.toNat) (bytesHigh : lineBytes.toNat ≤ 8192) :
    argTiming period active back front total lineBytes tag =
      some ⟨period.toNat, active.toNat, back.toNat, front.toNat, total.toNat, lineBytes.toNat, tg⟩ := by
  have periodHigh : period.toNat ≤ 65535 := Nat.le_of_lt_succ period.isLt
  have activeHigh : active.toNat ≤ 4095 := by omega
  simp [argTiming, argBelow_eq_some_iff.2 htag, between, periodLow, periodHigh, activeLow, activeHigh, covers,
    totalHigh, bytesLow, bytesHigh]

theorem argTiming_of_outOfRange
    (bad : 4 ≤ tag.toNat ∨ period.toNat < 100 ∨ active.toNat = 0 ∨
      total.toNat < active.toNat + back.toNat + front.toNat ∨ 4095 < total.toNat ∨ lineBytes.toNat = 0 ∨
      8192 < lineBytes.toNat) :
    argTiming period active back front total lineBytes tag = none := by
  unfold argTiming
  split
  case h_1 => rfl
  case h_2 tg htag =>
    have tagLow : tag.toNat < 4 := argBelow_eq_some_iff.1 htag ▸ tg.isLt
    refine if_neg fun values => ?_
    simp only [between, Bool.and_eq_true, decide_eq_true_eq] at values
    omega

end argTiming

/-! ### Storing a timing (R97, R98) -/

theorem Egress.storeTiming_of_running {e : Egress} (t : TimingSet) (running : e.run = .running) :
    e.storeTiming t = { e with pendingTiming := some t } := by
  simp [Egress.storeTiming, running]

theorem Egress.storeTiming_of_stopped {e : Egress} (t : TimingSet) (stopped : e.run = .stopped) :
    e.storeTiming t =
      { e with timing := t, pendingTiming := none, manualTotal := none, totalLines := t.total } := by
  simp [Egress.storeTiming, Egress.applyPendingStopped, stopped]

/-! ### The lock of an egress (R130) -/

theorem unlessLocked_of_locked {p : Port} {s : State} (r : CommandResult) (locked : (s.egress p).lock = true) :
    unlessLocked p s r = .refuse .denied :=
  if_pos locked

theorem unlessLocked_of_unlocked {p : Port} {s : State} (r : CommandResult) (unlocked : (s.egress p).lock = false) :
    unlessLocked p s r = r := by
  simp [unlessLocked, unlocked]

/-! ### The two tests -/

section execSetTiming

variable {p : Port} {period active total lineBytes : Word16} {back front tag : Byte} {s : State}

theorem exec_setTiming_of_unnamed (out : s.inReset = none)
    (unnamed : argTiming period active back front total lineBytes tag = none) :
    exec (.setTiming p period active back front total lineBytes tag) s = .next (s.refusedWith p .badArg) := by
  change execSetTiming p period active back front total lineBytes tag s = _
  rw [execSetTiming, onLink_taken out, unnamed]
  rfl

theorem exec_setTiming_of_locked {t : TimingSet} (out : s.inReset = none)
    (named : argTiming period active back front total lineBytes tag = some t) (locked : (s.egress p).lock = true) :
    exec (.setTiming p period active back front total lineBytes tag) s = .next (s.refusedWith p .denied) := by
  change execSetTiming p period active back front total lineBytes tag s = _
  simp only [execSetTiming, onLink_taken out, named, unlessLocked_of_locked _ locked]
  rfl

theorem exec_setTiming_of_unlocked {t : TimingSet} (out : s.inReset = none)
    (named : argTiming period active back front total lineBytes tag = some t)
    (unlocked : (s.egress p).lock = false) :
    exec (.setTiming p period active back front total lineBytes tag) s =
      .next ((s.setEgress p ((s.egress p).storeTiming t)).acked p []) := by
  change execSetTiming p period active back front total lineBytes tag s = _
  simp only [execSetTiming, onLink_taken out, named, unlessLocked_of_unlocked _ unlocked]
  rfl

end execSetTiming

/-- Settles O23: arguments in range name a timing set (`argTiming_of_inRange`), which the lock refuses or the
egress stores as its run state says; out of range they name none. -/
theorem setTimingStoresTheTiming : Obligations.SetTimingStoresTheTiming := by
  intro p period active total lineBytes back front tag s tg out
  refine ⟨fun ⟨htag, periodLow, activeLow, covers, totalHigh, bytesLow, bytesHigh⟩ => ?_, fun bad =>
    exec_setTiming_of_unnamed out (argTiming_of_outOfRange bad)⟩
  have named := argTiming_of_inRange htag periodLow activeLow covers totalHigh bytesLow bytesHigh
  refine ⟨exec_setTiming_of_locked out named, fun unlocked running => ?_, fun unlocked stopped => ?_⟩
  · rw [exec_setTiming_of_unlocked out named unlocked, Egress.storeTiming_of_running _ running]
  · rw [exec_setTiming_of_unlocked out named unlocked, Egress.storeTiming_of_stopped _ stopped]

end Sys2Proof.Machine

/-! The pattern library's commands (R136 to R138): what the argument bytes name, which test refuses each command,
and what it leaves in the entry or returns of it. -/

namespace Sys2Proof.Machine

/-! ### The entry and the content the arguments name (R134) -/

theorem argBelow_eq_none_iff {n : Nat} {b : Byte} : argBelow n b = none ↔ n ≤ b.toNat := by
  unfold argBelow
  split
  · next inRange => simp [inRange]
  · next tooHigh => simp [Nat.not_lt.1 tooHigh]

@[simp] theorem argPatternKind_code (k : PatternKind) : argPatternKind k.code = some k := by cases k <;> rfl

theorem argPatternKind_of_outOfRange {b : Byte} (tooHigh : 3 ≤ b.toNat) : argPatternKind b = none := by
  unfold argPatternKind
  split
  case h_4 => rfl
  all_goals omega

section argPattern

variable {blockSize barCount : Byte} {width : Word16} {colours : Vector Byte 16}

theorem argPattern_of_inRange {kind : PatternKind}
    (inRange : PatternContent.InRange ⟨kind, blockSize.toNat, barCount.toNat, width.toNat, colours⟩) :
    argPattern kind.code blockSize barCount width colours =
      some ⟨kind, blockSize.toNat, barCount.toNat, width.toNat, colours⟩ := by
  obtain ⟨blockLow, blockHigh, bars, widthLow, widthHigh⟩ := inRange
  have values : (between 1 blockSize.toNat 16 && [1, 2, 4, 8].contains barCount.toNat &&
      between 1 width.toNat 8192) = true := by
    simp only [between, blockLow, blockHigh, List.contains_iff_mem.2 bars, widthLow, widthHigh, decide_true,
      Bool.and_self]
  rw [argPattern, argPatternKind_code]
  exact if_pos values

theorem argPattern_of_outOfRange {kind : PatternKind}
    (bad : blockSize.toNat = 0 ∨ 16 < blockSize.toNat ∨ barCount.toNat ∉ [1, 2, 4, 8] ∨ width.toNat = 0 ∨
      8192 < width.toNat) :
    argPattern kind.code blockSize barCount width colours = none := by
  rw [argPattern, argPatternKind_code]
  refine if_neg fun values => ?_
  simp only [between, Bool.and_eq_true, decide_eq_true_eq, List.contains_iff_mem] at values
  obtain ⟨⟨⟨blockLow, blockHigh⟩, bars⟩, widthLow, widthHigh⟩ := values
  obtain noBlock | blockTooHigh | noBars | noWidth | widthTooHigh := bad
  case inr.inr.inl => exact noBars bars
  all_goals omega

theorem argPattern_of_kind_outOfRange {k : Byte} (tooHigh : 3 ≤ k.toNat) :
    argPattern k blockSize barCount width colours = none := by
  rw [argPattern, argPatternKind_of_outOfRange tooHigh]

end argPattern

/-! ### WRITE_PATTERN (R136) -/

section execWritePattern

variable {p : Port} {entry kind blockSize barCount : Byte} {width : Word16} {colours : Vector Byte 16} {s : State}

theorem exec_writePattern_of_unnamed (out : s.inReset = none)
    (unnamed : argBelow 8 entry = none ∨ argPattern kind blockSize barCount width colours = none) :
    exec (.writePattern p entry kind blockSize barCount width colours) s = .next (s.refusedWith p .badArg) := by
  change execWritePattern p entry kind blockSize barCount width colours s = _
  rw [execWritePattern, onLink_taken out]
  split
  case h_1 n content hentry hcontent => simp [hentry, hcontent] at unnamed
  case h_2 => rfl

variable {n : EntryNo} {content : PatternContent}

theorem exec_writePattern_of_denied (out : s.inReset = none) (hentry : entry.toNat = n.val)
    (named : argPattern kind blockSize barCount width colours = some content)
    (denied : s.cfgHold = true ∨ (s.pattern n).lock = true) :
    exec (.writePattern p entry kind blockSize barCount width colours) s = .next (s.refusedWith p .denied) := by
  change execWritePattern p entry kind blockSize barCount width colours s = _
  simp only [execWritePattern, onLink_taken out, argBelow_eq_some_iff.2 hentry, named]
  by_cases hold : s.cfgHold = true
  · rw [if_pos hold]
    rfl
  · rw [if_neg hold, if_pos (denied.resolve_left hold)]
    rfl

theorem exec_writePattern_of_unlocked (out : s.inReset = none) (hentry : entry.toNat = n.val)
    (named : argPattern kind blockSize barCount width colours = some content)
    (noHold : s.cfgHold = false) (unlocked : (s.pattern n).lock = false) :
    exec (.writePattern p entry kind blockSize barCount width colours) s =
      .next ((s.setPattern n ⟨true, false, content⟩).acked p []) := by
  change execWritePattern p entry kind blockSize barCount width colours s = _
  simp only [execWritePattern, onLink_taken out, argBelow_eq_some_iff.2 hentry, named, noHold, unlocked]
  rfl

end execWritePattern

/-! ### LOCK_PATTERN (R137) -/

section execLockPattern

variable {p : Port} {entry : Byte} {n : EntryNo} {s : State}

theorem exec_lockPattern_of_outOfRange (out : s.inReset = none) (tooHigh : 8 ≤ entry.toNat) :
    exec (.lockPattern p entry) s = .next (s.refusedWith p .badArg) := by
  change execLockPattern p entry s = _
  rw [execLockPattern, onLink_taken out, argBelow_eq_none_iff.2 tooHigh]
  rfl

theorem exec_lockPattern_of_hold (out : s.inReset = none) (hentry : entry.toNat = n.val)
    (hold : s.cfgHold = true) :
    exec (.lockPattern p entry) s = .next (s.refusedWith p .denied) := by
  change execLockPattern p entry s = _
  simp only [execLockPattern, onLink_taken out, argBelow_eq_some_iff.2 hentry, hold]
  rfl

theorem exec_lockPattern_of_invalid (out : s.inReset = none) (hentry : entry.toNat = n.val)
    (noHold : s.cfgHold = false) (invalid : (s.pattern n).valid = false) :
    exec (.lockPattern p entry) s = .next (s.refusedWith p .badState) := by
  change execLockPattern p entry s = _
  simp only [execLockPattern, onLink_taken out, argBelow_eq_some_iff.2 hentry, noHold, invalid]
  rfl

theorem exec_lockPattern_of_valid (out : s.inReset = none) (hentry : entry.toNat = n.val)
    (noHold : s.cfgHold = false) (valid : (s.pattern n).valid = true) :
    exec (.lockPattern p entry) s =
      .next ((s.setPattern n ⟨true, true, (s.pattern n).content⟩).acked p []) := by
  change execLockPattern p entry s = _
  simp only [execLockPattern, onLink_taken out, argBelow_eq_some_iff.2 hentry, noHold, valid]
  rfl

end execLockPattern

/-! ### READ_PATTERN (R138) -/

section execReadPattern

variable {p : Port} {entry : Byte} {n : EntryNo} {s : State}

theorem exec_readPattern_of_outOfRange (out : s.inReset = none) (tooHigh : 8 ≤ entry.toNat) :
    exec (.readPattern p entry) s = .next (s.refusedWith p .badArg) := by
  change execReadPattern p entry s = _
  rw [execReadPattern, onLink_taken out, argBelow_eq_none_iff.2 tooHigh]
  rfl

theorem exec_readPattern_of_inRange (out : s.inReset = none) (hentry : entry.toNat = n.val) :
    exec (.readPattern p entry) s = .next (s.acked p (patternReport n s)) := by
  change execReadPattern p entry s = _
  rw [execReadPattern, onLink_taken out, argBelow_eq_some_iff.2 hentry]
  rfl

end execReadPattern

/-- The lock is off because a locked entry is valid (R137). -/
theorem pattern_eq_cleared_of_invalid {s : State} {n : EntryNo} (inRange : PatternsInRange s)
    (invalid : (s.pattern n).valid = false) : s.pattern n = PatternEntry.cleared := by
  obtain ⟨-, lockedIsValid, invalidIsCleared⟩ := inRange.1 n
  have unlocked : (s.pattern n).lock = false := by
    cases locked : (s.pattern n).lock with
    | false => rfl
    | true => exact absurd (lockedIsValid locked) (by simp [invalid])
  calc s.pattern n = ⟨(s.pattern n).valid, (s.pattern n).lock, (s.pattern n).content⟩ := rfl
    _ = PatternEntry.cleared := by rw [invalid, unlocked, invalidIsCleared invalid]; rfl

theorem patternReport_of_cleared {s : State} {n : EntryNo} (cleared : s.pattern n = PatternEntry.cleared) :
    patternReport n s = [0, 0, 0, 1, 1, 0, 1] ++ List.replicate 16 0 ++ [BitVec.ofNat 8 n.val] := by
  rw [patternReport, cleared]
  rfl

/-- Settles O47: the entry byte and the content bytes name an entry and a content exactly when they are in range;
then the tests of each command decide in order, and READ_PATTERN reports an invalid entry as the cleared one. -/
theorem patternCommandsWriteLockAndRead : Obligations.PatternCommandsWriteLockAndRead := by
  intro p entry blockSize barCount kind width colours s out
  refine ⟨fun tooHigh => ⟨exec_writePattern_of_unnamed out (.inl (argBelow_eq_none_iff.2 tooHigh)),
      exec_lockPattern_of_outOfRange out tooHigh, exec_readPattern_of_outOfRange out tooHigh⟩,
    fun bad => exec_writePattern_of_unnamed out (.inr (argPattern_of_outOfRange bad)),
    fun k tooHigh => exec_writePattern_of_unnamed out (.inr (argPattern_of_kind_outOfRange tooHigh)),
    fun n hentry => ⟨fun blockLow blockHigh bars widthLow widthHigh => ?_, exec_lockPattern_of_hold out hentry,
      exec_lockPattern_of_invalid out hentry, exec_lockPattern_of_valid out hentry,
      exec_readPattern_of_inRange out hentry, fun inRange invalid => ?_⟩⟩
  · have named := argPattern_of_inRange (kind := kind) (colours := colours)
      ⟨blockLow, blockHigh, bars, widthLow, widthHigh⟩
    exact ⟨exec_writePattern_of_denied out hentry named, exec_writePattern_of_unlocked out hentry named⟩
  · have cleared := pattern_eq_cleared_of_invalid inRange invalid
    rw [exec_readPattern_of_inRange out hentry, patternReport_of_cleared cleared]

end Sys2Proof.Machine

/-! PIN_PAGE and PIN_NEWEST (R146, R147): what the hold of a pin leaves in the page (R12), and the tests before it. -/

namespace Sys2Proof.Machine

/-! ### The report of a page's sequence, and the hold of a pin (R2, R12) -/

theorem pageSequence_of_some {g : PageNo} {q : Word32} {s : State} (sequence : (s.page g).sequence = some q) :
    pageSequence s g = q := by
  rw [pageSequence, sequence]
  rfl

/-- A new holder of a READY page joins its holders, counts, and has viewed it (R12). -/
theorem takeHold_of_ready {h : Holder} {g : PageNo} {s : State} (ready : (s.page g).state = .ready)
    (new : hasMember (s.page g).holders h.bit = false) :
    takeHold h g s = s.setPage g
      { s.page g with
        holders := addMember (s.page g).holders h.bit
        holdCount := (s.page g).holdCount + 1, viewed := true } := by
  simp [takeHold, ready, Page.hold, new]

theorem pinPage_of_not_ready {p : Port} {g : PageNo} {s : State} (other : (s.page g).state ≠ .ready) :
    pinPage p g s = .refuse .badState :=
  if_neg other

theorem pinPage_of_ready {p : Port} {g : PageNo} {q : Word32} {s : State} (ready : (s.page g).state = .ready)
    (sequence : (s.page g).sequence = some q)
    (new : hasMember (s.page g).holders (Holder.pin p).bit = false) :
    pinPage p g s =
      .ok ((s.setPage g
          { s.page g with
            holders := addMember (s.page g).holders (Holder.pin p).bit
            holdCount := (s.page g).holdCount + 1, viewed := true }).setPin p (some g))
        (BitVec.ofNat 8 g.val :: be32 q) := by
  rw [pinPage, if_pos ready, takeHold_of_ready ready new, pageSequence_of_some sequence]
  rfl

/-! ### PIN_PAGE (R146) -/

section execPinPage

variable {p : Port} {b : Byte} {g : PageNo} {s : State}

theorem exec_pinPage_of_outOfRange (out : s.inReset = none) (tooHigh : 16 ≤ b.toNat) :
    exec (.pinPage p b) s = .next (s.refusedWith p .badArg) := by
  change execPinPage p b s = _
  rw [execPinPage, onLink_taken out, argBelow_eq_none_iff.2 tooHigh]
  rfl

theorem exec_pinPage_of_filled (out : s.inReset = none) (hpage : b.toNat = g.val)
    (filled : (s.pin p).isSome = true) :
    exec (.pinPage p b) s = .next (s.refusedWith p .badState) := by
  change execPinPage p b s = _
  simp only [execPinPage, onLink_taken out, argBelow_eq_some_iff.2 hpage, if_pos filled]
  rfl

theorem exec_pinPage_of_empty (out : s.inReset = none) (hpage : b.toNat = g.val) (empty : s.pin p = none) :
    exec (.pinPage p b) s = answered p s (pinPage p g s) := by
  change execPinPage p b s = _
  simp [execPinPage, onLink_taken out, argBelow_eq_some_iff.2 hpage, empty]

end execPinPage

/-! ### PIN_NEWEST (R147) -/

section execPinNewest

variable {p : Port} {b : Byte} {st : StreamNo} {s : State}

theorem exec_pinNewest_of_outOfRange (out : s.inReset = none) (tooHigh : 8 ≤ b.toNat) :
    exec (.pinNewest p b) s = .next (s.refusedWith p .badArg) := by
  change execPinNewest p b s = _
  rw [execPinNewest, onLink_taken out, argBelow_eq_none_iff.2 tooHigh]
  rfl

theorem exec_pinNewest_of_filled (out : s.inReset = none) (hstream : b.toNat = st.val)
    (filled : (s.pin p).isSome = true) :
    exec (.pinNewest p b) s = .next (s.refusedWith p .badState) := by
  change execPinNewest p b s = _
  simp only [execPinNewest, onLink_taken out, argBelow_eq_some_iff.2 hstream, if_pos filled]
  rfl

theorem exec_pinNewest_of_nothing_ready (out : s.inReset = none) (hstream : b.toNat = st.val)
    (empty : s.pin p = none) (nothing : (s.stream st).state = .closed ∨ (s.stream st).ready = []) :
    exec (.pinNewest p b) s = .next (s.refusedWith p .badState) := by
  change execPinNewest p b s = _
  by_cases closed : (s.stream st).state = .closed
  · simp only [execPinNewest, onLink_taken out, argBelow_eq_some_iff.2 hstream, empty, if_pos closed]
    rfl
  · simp only [execPinNewest, onLink_taken out, argBelow_eq_some_iff.2 hstream, empty, if_neg closed,
      nothing.resolve_left closed]
    rfl

theorem exec_pinNewest_of_newest {e : ReadyEntry} (out : s.inReset = none) (hstream : b.toNat = st.val)
    (empty : s.pin p = none) (notClosed : (s.stream st).state ≠ .closed)
    (newest : (s.stream st).ready.getLast? = some e) :
    exec (.pinNewest p b) s = answered p s (pinPage p e.page s) := by
  change execPinNewest p b s = _
  simp [execPinNewest, onLink_taken out, argBelow_eq_some_iff.2 hstream, empty, notClosed, newest]

end execPinNewest

/-- Settles O38: past the tests of either command the answer is that of `pinPage`, which refuses a page that is not
READY and takes the hold on one that is (`pinPage_of_ready`). -/
theorem pinsTakeAHold : Obligations.PinsTakeAHold := by
  intro p b s out
  refine ⟨exec_pinPage_of_outOfRange out, exec_pinNewest_of_outOfRange out, ?_, fun g hpage empty other => ?_,
    fun st hstream => exec_pinNewest_of_nothing_ready out hstream, ?_⟩
  · rintro c (⟨rfl, inRange⟩ | ⟨rfl, inRange⟩) filled
    · exact exec_pinPage_of_filled (g := ⟨b.toNat, inRange⟩) out rfl filled
    · exact exec_pinNewest_of_filled (st := ⟨b.toNat, inRange⟩) out rfl filled
  · rw [exec_pinPage_of_empty out hpage empty, pinPage_of_not_ready other]
    rfl
  · intro c g q command empty ready sequence new
    have run : exec c s = answered p s (pinPage p g s) := by
      obtain ⟨rfl, hpage⟩ | ⟨st, rfl, hstream, notClosed, newest⟩ := command
      · exact exec_pinPage_of_empty out hpage empty
      · obtain ⟨e, listed, rfl⟩ := Option.map_eq_some_iff.1 newest
        exact exec_pinNewest_of_newest out hstream empty notClosed listed
    rw [run, pinPage_of_ready ready sequence new]
    rfl

end Sys2Proof.Machine

/-! READ_LINE and READ_META (R150 to R152): the page a selector selects, the address of a line's bytes (R1), the
tests before the read, and the response. -/

namespace Sys2Proof.Machine

/-! ### The selected page (R150) -/

theorem argSelector_of_outOfRange {b : Byte} (tooHigh : 2 ≤ b.toNat) : argSelector b = none := by
  unfold argSelector
  split
  case h_3 => rfl
  all_goals omega

theorem argSelector_of_zero {b : Byte} (zero : b.toNat = 0) : argSelector b = some .pin := by
  simp [argSelector, zero]

theorem argSelector_of_one {b : Byte} (one : b.toNat = 1) : argSelector b = some .egress := by
  simp [argSelector, one]

/-- A selector byte in range names the pin slot or the held page of the egress of the issuing port. -/
theorem exists_selectedPage {p : Port} {b : Byte} {s : State} {page : Option PageNo}
    (h : b.toNat = 0 ∧ s.pin p = page ∨ b.toNat = 1 ∧ (s.egress p).held = page) :
    ∃ sel, argSelector b = some sel ∧ selectedPage p s sel = page := by
  obtain ⟨zero, pinned⟩ | ⟨one, held⟩ := h
  · exact ⟨.pin, argSelector_of_zero zero, pinned⟩
  · exact ⟨.egress, argSelector_of_one one, held⟩

/-! ### The bytes of a line in the frame store (R1) -/

/-- A line ends within the bytes its directory counts. -/
theorem lineOffset_add_le_sum (directory : List Nat) (k : Nat) :
    lineOffset directory k + directory.getD k 0 ≤ directory.sum := by
  induction directory generalizing k with
  | nil => simp [lineOffset]
  | cons n rest ih =>
    cases k with
    | zero => simp [lineOffset]
    | succ k =>
      have := ih k
      simp only [lineOffset, List.take_succ_cons, List.sum_cons, List.getD_cons_succ] at this ⊢
      omega

/-- A line of a well kept page lies within the page's slot, and so within the frame store. -/
theorem fetch_of_line {g : PageNo} {s : State} {index offset count : Nat}
    (agrees : (s.page g).DirectoryAgrees)
    (inLine : offset + count ≤ (s.page g).directory.getD index 0) :
    s.fetch (lineAddress s g index + offset) count =
      .ok (s.frameStore.readAll (lineAddress s g index + offset) count) := by
  obtain ⟨-, -, counted, inSlot, -⟩ := agrees
  have inPage := lineOffset_add_le_sum (s.page g).directory index
  have inStore : lineAddress s g index + offset + count ≤ Config.frameStoreBytes := by
    have slot := g.isLt
    simp only [lineAddress, Config.slotBytes, Config.frameStoreBytes] at inSlot ⊢
    omega
  exact if_pos inStore

/-! ### Tests 3 and 4 of R151, and the read -/

section readLine

variable {g : PageNo} {index offset count : Nat} {s : State}

theorem readLine_of_outside
    (outside : (s.page g).lineCount ≤ index ∨ (s.page g).directory.getD index 0 < offset + count) :
    readLine g index offset count s = .refuse .badArg := by
  by_cases noLine : (s.page g).lineCount ≤ index
  · exact if_pos noLine
  · exact (if_neg noLine).trans (if_pos (outside.resolve_left noLine))

theorem readLine_of_inside (agrees : (s.page g).DirectoryAgrees) (hasLine : index < (s.page g).lineCount)
    (inLine : offset + count ≤ (s.page g).directory.getD index 0) :
    readLine g index offset count s =
      .done s (Answer.line (lineReport s g ((s.page g).directory.getD index 0) count)
        (s.frameStore.readAll (lineAddress s g index + offset) count)) := by
  simp only [readLine, if_neg (Nat.not_le.2 hasLine), if_neg (Nat.not_lt.2 inLine), fetch_of_line agrees inLine]

end readLine

@[simp] theorem Memory.length_readAll (m : Memory) (a n : Nat) : (m.readAll a n).length = n := by
  simp [Memory.readAll]

/-- The length byte of READ_LINE is the count less one (R174). -/
theorem answer_line_of_readAll {q : Word32} {g : PageNo} {s : State} (sequence : (s.page g).sequence = some q)
    (lineBytes a count : Nat) :
    Answer.line (lineReport s g lineBytes count) (s.frameStore.readAll a count) =
      ⟨.ok, BitVec.ofNat 8 (count - 1),
        [BitVec.ofNat 8 g.val] ++ be32 q ++ be16 (BitVec.ofNat 16 lineBytes) ++ [BitVec.ofNat 8 (count - 1)] ++
          (List.range count).map fun i => s.frameStore.read (a + i)⟩ := by
  simp only [Answer.line, Memory.length_readAll, lineReport, pageSequence_of_some sequence]
  rfl

/-! ### READ_LINE (R151) -/

/-- Test 1 of R151 but for the selector. -/
theorem readRange_iff (index offset count : Nat) :
    (between 0 index 4094 && between 0 offset 8191 && between 1 count 256) = true ↔
      index ≤ 4094 ∧ offset ≤ 8191 ∧ 1 ≤ count ∧ count ≤ 256 := by
  simp [between, and_assoc]

section execReadLine

variable {p : Port} {selector : Byte} {index offset count : Word16} {s : State}

theorem exec_readLine_of_outOfRange (out : s.inReset = none)
    (bad : 2 ≤ selector.toNat ∨ 4094 < index.toNat ∨ 8191 < offset.toNat ∨ count.toNat = 0 ∨
      256 < count.toNat) :
    exec (.readLine p selector index offset count) s = .next (s.refusedWith p .badArg) := by
  change execReadLine p selector index offset count s = _
  rw [execReadLine, onLink_taken out]
  by_cases tooHigh : 2 ≤ selector.toNat
  · rw [argSelector_of_outOfRange tooHigh]
    rfl
  · have values : ¬ (between 0 index.toNat 4094 && between 0 offset.toNat 8191 &&
        between 1 count.toNat 256) = true := by
      rw [readRange_iff]
      omega
    cases argSelector selector with
    | none => rfl
    | some sel => exact congrArg (answered p s) (if_neg values)

variable {sel : Selector}

theorem exec_readLine_of_unselected (out : s.inReset = none) (named : argSelector selector = some sel)
    (inRange : index.toNat ≤ 4094 ∧ offset.toNat ≤ 8191 ∧ 1 ≤ count.toNat ∧ count.toNat ≤ 256)
    (unselected : selectedPage p s sel = none) :
    exec (.readLine p selector index offset count) s = .next (s.refusedWith p .badState) := by
  change execReadLine p selector index offset count s = _
  simp only [execReadLine, onLink_taken out, named, if_pos ((readRange_iff ..).2 inRange), unselected]
  rfl

theorem exec_readLine_of_selected {g : PageNo} (out : s.inReset = none)
    (named : argSelector selector = some sel)
    (inRange : index.toNat ≤ 4094 ∧ offset.toNat ≤ 8191 ∧ 1 ≤ count.toNat ∧ count.toNat ≤ 256)
    (selected : selectedPage p s sel = some g) :
    exec (.readLine p selector index offset count) s =
      answered p s (readLine g index.toNat offset.toNat count.toNat s) := by
  change execReadLine p selector index offset count s = _
  simp only [execReadLine, onLink_taken out, named, if_pos ((readRange_iff ..).2 inRange), selected]

end execReadLine

/-! ### READ_META (R152) -/

section execReadMeta

variable {p : Port} {selector : Byte} {s : State}

theorem exec_readMeta_of_outOfRange (out : s.inReset = none) (tooHigh : 2 ≤ selector.toNat) :
    exec (.readMeta p selector) s = .next (s.refusedWith p .badArg) := by
  change execReadMeta p selector s = _
  rw [execReadMeta, onLink_taken out, argSelector_of_outOfRange tooHigh]
  rfl

variable {sel : Selector}

theorem exec_readMeta_of_unselected (out : s.inReset = none) (named : argSelector selector = some sel)
    (unselected : selectedPage p s sel = none) :
    exec (.readMeta p selector) s = .next (s.refusedWith p .badState) := by
  change execReadMeta p selector s = _
  simp only [execReadMeta, onLink_taken out, named, unselected]
  rfl

theorem exec_readMeta_of_selected {g : PageNo} (out : s.inReset = none) (named : argSelector selector = some sel)
    (selected : selectedPage p s sel = some g) :
    exec (.readMeta p selector) s = .next (s.acked p (metadataReport s g)) := by
  change execReadMeta p selector s = _
  simp only [execReadMeta, onLink_taken out, named, selected]
  rfl

end execReadMeta

section metadataReport

variable {g : PageNo} {q : Word32} {s : State}

theorem metadataReport_of_none (sequence : (s.page g).sequence = some q) (absent : (s.page g).metadata = none) :
    metadataReport s g = [BitVec.ofNat 8 g.val] ++ be32 q ++ [0, 0] := by
  rw [metadataReport, pageSequence_of_some sequence, absent]
  rfl

theorem metadataReport_of_some {m : List Byte} (sequence : (s.page g).sequence = some q)
    (present : (s.page g).metadata = some m) :
    metadataReport s g = [BitVec.ofNat 8 g.val] ++ be32 q ++ ([1, BitVec.ofNat 8 m.length] ++ m) := by
  rw [metadataReport, pageSequence_of_some sequence, present]
  rfl

end metadataReport

/-- Settles O40: with the arguments in range both commands act on the page the selector selects
(`exists_selectedPage`); READ_LINE of a line that reaches so far finds its bytes in the frame store, because a well
kept page's lines lie within its slot (`fetch_of_line`). -/
theorem readsReturnTheHeldPage : Obligations.ReadsReturnTheHeldPage := by
  intro p selector index offset count s out
  refine ⟨exec_readLine_of_outOfRange out, exec_readMeta_of_outOfRange out,
    fun indexHigh offsetHigh countLow countHigh => ?_⟩
  have inRange : index.toNat ≤ 4094 ∧ offset.toNat ≤ 8191 ∧ 1 ≤ count.toNat ∧ count.toNat ≤ 256 :=
    ⟨indexHigh, offsetHigh, countLow, countHigh⟩
  constructor
  · intro noPage
    obtain ⟨sel, named, unselected⟩ := exists_selectedPage noPage
    exact ⟨exec_readLine_of_unselected out named inRange unselected,
      exec_readMeta_of_unselected out named unselected⟩
  · intro g q sequence held
    obtain ⟨sel, named, selected⟩ := exists_selectedPage held
    rw [exec_readLine_of_selected out named inRange selected, exec_readMeta_of_selected out named selected]
    refine ⟨fun outside => ?_, fun wellKept hasLine inLine => ?_, ?_⟩
    · rw [readLine_of_outside outside]
      rfl
    · obtain ⟨agrees, -⟩ := wellKept g
      rw [readLine_of_inside agrees hasLine inLine, answer_line_of_readAll sequence]
      rfl
    · cases metadata : (s.page g).metadata with
      | none => rw [metadataReport_of_none sequence metadata]
      | some m => rw [metadataReport_of_some sequence metadata]

end Sys2Proof.Machine

/-! The notice unit's commands (R158, R160, R161): what READ_NOTICES reports and leaves, which mask and which stream
are in range, and what each command stores. -/

namespace Sys2Proof.Machine

/-! ### The notice word and the cleared unit (R158) -/

/-- No flag remains set, so the line is released (R158). -/
theorem NoticeUnit.cleared_eq (u : NoticeUnit) : u.cleared = ⟨0, 0, 0, 0, 0, u.mask, u.watch, false⟩ := by
  have noneUnmasked : decide (0#11 &&& u.mask ≠ 0#11) = false := by simp
  rw [cleared, settle]
  exact congrArg (NoticeUnit.mk 0 0 0 0 0 u.mask u.watch) noneUnmasked

section noticeReport

variable {u : NoticeUnit}

theorem noticeReport_of_none (absent : u.watch = none) :
    noticeReport u = be16 (u.flags.setWidth 16) ++ [u.stallSet, u.resumeSet, u.skipSet, u.drainedSet] ++
      be16 (u.mask.setWidth 16) ++ [0, 0, 0, 0, 0, 0] := by
  rw [noticeReport, absent]
  rfl

theorem noticeReport_of_some {w : Watch} (present : u.watch = some w) :
    noticeReport u = be16 (u.flags.setWidth 16) ++ [u.stallSet, u.resumeSet, u.skipSet, u.drainedSet] ++
      be16 (u.mask.setWidth 16) ++ ([1, BitVec.ofNat 8 w.stream.val] ++ be32 w.compare) := by
  rw [noticeReport, present]
  rfl

end noticeReport

/-! ### Masks of the eleven flags (R160) -/

/-- A mask has no bit beyond the eleven flags exactly when it lies below 2 to the eleventh. -/
theorem noBitBeyondFlags_iff (mask : Word16) : mask.extractLsb' 11 5 = 0#5 ↔ mask.toNat < 2048 := by
  have beyond : (mask.extractLsb' 11 5).toNat = mask.toNat / 2048 := by
    rw [BitVec.extractLsb'_toNat, Nat.shiftRight_eq_div_pow]
    have := mask.isLt
    omega
  rw [BitVec.toNat_eq, beyond, BitVec.toNat_ofNat]
  omega

/-! ### The four commands out of reset -/

section notices

variable {p : Port} {mask : Word16} {stream : Byte} {compare : Word32} {s : State}

theorem exec_readNotices_of_out (out : s.inReset = none) :
    exec (.readNotices p) s =
      .next ((s.setNotice p (s.notice p).cleared).acked p (noticeReport (s.notice p))) := by
  change execReadNotices p s = _
  rw [execReadNotices, onLink_taken out]
  rfl

theorem exec_setMask_of_outOfRange (out : s.inReset = none) (tooHigh : 2048 ≤ mask.toNat) :
    exec (.setMask p mask) s = .next (s.refusedWith p .badArg) := by
  change execSetMask p mask s = _
  rw [execSetMask, onLink_taken out, if_neg (mt (noBitBeyondFlags_iff mask).1 (Nat.not_lt.2 tooHigh))]
  rfl

theorem exec_setMask_of_inRange (out : s.inReset = none) (inRange : mask.toNat < 2048) :
    exec (.setMask p mask) s =
      .next ((s.setNotice p (NoticeUnit.settle { s.notice p with mask := mask.setWidth 11 })).acked p []) := by
  change execSetMask p mask s = _
  rw [execSetMask, onLink_taken out, if_pos ((noBitBeyondFlags_iff mask).2 inRange)]
  rfl

theorem exec_setWatch_of_outOfRange (out : s.inReset = none) (tooHigh : 8 ≤ stream.toNat) :
    exec (.setWatch p stream compare) s = .next (s.refusedWith p .badArg) := by
  change execSetWatch p stream compare s = _
  rw [execSetWatch, onLink_taken out, argBelow_eq_none_iff.2 tooHigh]
  rfl

theorem exec_setWatch_of_inRange {st : StreamNo} (out : s.inReset = none) (hstream : stream.toNat = st.val) :
    exec (.setWatch p stream compare) s =
      .next ((s.setNotice p { s.notice p with watch := some ⟨st, compare⟩ }).acked p
        (optionalWord (s.stream st).lastSequence)) := by
  change execSetWatch p stream compare s = _
  rw [execSetWatch, onLink_taken out, argBelow_eq_some_iff.2 hstream]
  rfl

theorem exec_clearWatch_of_out (out : s.inReset = none) :
    exec (.clearWatch p) s = .next ((s.setNotice p { s.notice p with watch := none }).acked p []) := by
  change execClearWatch p s = _
  rw [execClearWatch, onLink_taken out]
  rfl

end notices

/-- Settles O49: a mask below 2048 has no bit beyond the eleven flags (`noBitBeyondFlags_iff`) and a byte below 8 names
a stream; the reports follow the presence of the watch and of the stream's last sequence. -/
theorem noticeCommandsReadMaskAndWatch : Obligations.NoticeCommandsReadMaskAndWatch := by
  rintro p mask stream compare s u out rfl
  refine ⟨?_, exec_setMask_of_outOfRange out, exec_setMask_of_inRange out, exec_setWatch_of_outOfRange out,
    fun st hstream => ?_, exec_clearWatch_of_out out⟩
  · rw [exec_readNotices_of_out out, NoticeUnit.cleared_eq]
    cases watch : (s.notice p).watch with
    | none => rw [noticeReport_of_none watch]
    | some w => rw [noticeReport_of_some watch]
  · rw [exec_setWatch_of_inRange out hstream]
    cases (s.stream st).lastSequence <;> rfl

end Sys2Proof.Machine

/-! READ_ID and READ_TIME (R169): the bytes of the identity, and the answer each command leaves on its link. -/

namespace Sys2Proof.Machine

/-! ### The identity (R169) -/

theorem be16_vendorCode : be16 Config.vendorCode = [0x0A, 0x31] := by decide

theorem be16_partCode : be16 Config.partCode = [0x04, 0x16] := by decide

theorem idReport_eq (p : Port) :
    idReport p = [0x0A, 0x31, 0x04, 0x16, 0x01, BitVec.ofNat 8 p.val, 4, 16, 8] := by
  rw [idReport, be16_vendorCode, be16_partCode]
  rfl

/-! ### The two commands out of reset -/

section identityAndTime

variable {p : Port} {s : State}

theorem exec_readId_of_out (out : s.inReset = none) : exec (.readId p) s = .next (s.acked p (idReport p)) := by
  change execReadId p s = _
  rw [execReadId, onLink_taken out]
  rfl

theorem exec_readTime_of_out (out : s.inReset = none) :
    exec (.readTime p) s = .next (s.acked p (be32 s.timeBase)) := by
  change execReadTime p s = _
  rw [execReadTime, onLink_taken out]
  rfl

end identityAndTime

/-- Settles O10: out of reset each command only puts its answer on the link; the nine bytes of READ_ID are the
identity written out (`idReport_eq`), the four of READ_TIME the time base most significant byte first (`be32`). -/
theorem identityAndTimeAreReported : Obligations.IdentityAndTimeAreReported := by
  intro p s out
  constructor
  · rw [exec_readId_of_out out, idReport_eq]
    rfl
  · rw [exec_readTime_of_out out]
    rfl

end Sys2Proof.Machine

/-! What one event may do to the notices, the streams and the page pool. `Upkeep x s t` says once what holds of every
operation of the part, but for the records that `x` names: notices are only raised, stream settings stay, subscribers
stay, and the page records and the free list stay in order. -/

namespace Sys2Proof

/-- Of two replacements of one entry the second remains. -/
@[simp] theorem Table.put_put {α : Type} {n : Nat} (t : Vector α n) (i : Fin n) (a b : α) :
    Table.put (Table.put t i a) i b = Table.put t i b := by
  refine Table.ext fun j => ?_
  simp only [Table.get_put]
  split <;> rfl

namespace Machine

@[simp] theorem State.setPage_setPage (s : State) (g : PageNo) (a b : Page) :
    (s.setPage g a).setPage g b = s.setPage g b := by simp [State.setPage]
@[simp] theorem State.setStream_setStream (s : State) (st : StreamNo) (a b : Stream) :
    (s.setStream st a).setStream st b = s.setStream st b := by simp [State.setStream]
@[simp] theorem State.setEgress_setEgress (s : State) (p : Port) (a b : Egress) :
    (s.setEgress p a).setEgress p b = s.setEgress p b := by simp [State.setEgress]
@[simp] theorem State.setCapture_setCapture (s : State) (p : Port) (a b : Capture) :
    (s.setCapture p a).setCapture p b = s.setCapture p b := by simp [State.setCapture]

/-! ### Sets of numbered members -/

theorem hasMember_dropMember {n : Nat} (set : BitVec n) (i j : Fin n) :
    hasMember (dropMember set i) j = (hasMember set j && decide (j ≠ i)) := by
  have single : (1#n <<< i.val).getLsbD j.val = decide (j = i) := by
    rw [Bool.eq_iff_iff]
    simp only [BitVec.getLsbD_shiftLeft, BitVec.getLsbD_one, Fin.ext_iff, Bool.and_eq_true, Bool.not_eq_true',
      decide_eq_true_eq, decide_eq_false_iff_not]
    omega
  simp only [hasMember, dropMember, BitVec.getLsbD_and, BitVec.getLsbD_not, single, j.isLt, decide_true,
    Bool.true_and, ne_eq, decide_not]

@[simp] theorem hasMember_zero {n : Nat} (j : Fin n) : hasMember (0#n) j = false := by simp [hasMember]

theorem hasMember_and {n : Nat} (a b : BitVec n) (j : Fin n) :
    hasMember (a &&& b) j = (hasMember a j && hasMember b j) := by simp [hasMember]

/-- Two sets with the same members are equal. -/
theorem eq_of_hasMember {n : Nat} {a b : BitVec n} (h : ∀ j : Fin n, hasMember a j = hasMember b j) : a = b :=
  BitVec.eq_of_getLsbD_eq fun i hi => h ⟨i, hi⟩

/-- A set is not empty exactly when it has a member. -/
theorem ne_zero_iff_hasMember {n : Nat} (a : BitVec n) : a ≠ 0#n ↔ ∃ j : Fin n, hasMember a j = true := by
  constructor
  · intro nonempty
    by_contra noMember
    simp only [not_exists, Bool.not_eq_true] at noMember
    exact nonempty (eq_of_hasMember fun j => by rw [noMember j, hasMember_zero])
  · rintro ⟨j, member⟩ rfl
    simp at member

theorem countMembers_eq_card {n : Nat} (a : BitVec n) :
    countMembers a = (Finset.univ.filter fun j : Fin n => hasMember a j = true).card := by
  have range : List.range n = (List.finRange n).map Fin.val := (List.map_coe_finRange_eq_range ..).symm
  have filtered : (Finset.univ.filter fun j : Fin n => hasMember a j = true).val =
      ((List.finRange n).filter fun j => hasMember a j : List (Fin n)) := by
    simp [Fin.univ_def]
  rw [countMembers, range, List.countP_map, Finset.card_def, filtered, Multiset.coe_card,
    List.countP_eq_length_filter]
  rfl

theorem countMembers_addMember {n : Nat} {a : BitVec n} {i : Fin n} (new : hasMember a i = false) :
    countMembers (addMember a i) = countMembers a + 1 := by
  have joined : (Finset.univ.filter fun j => hasMember (addMember a i) j = true) =
      insert i (Finset.univ.filter fun j => hasMember a j = true) := by
    ext j
    simp [hasMember_addMember, or_comm]
  rw [countMembers_eq_card, countMembers_eq_card, joined, Finset.card_insert_of_notMem (by simp [new])]

theorem countMembers_dropMember {n : Nat} {a : BitVec n} {i : Fin n} (member : hasMember a i = true) :
    countMembers (dropMember a i) = countMembers a - 1 := by
  have left : (Finset.univ.filter fun j => hasMember (dropMember a i) j = true) =
      (Finset.univ.filter fun j => hasMember a j = true).erase i := by
    ext j
    simp [hasMember_dropMember, and_comm]
  rw [countMembers_eq_card, countMembers_eq_card, left, Finset.card_erase_of_mem (by simp [member])]

/-- A set without members counts none, and conversely. -/
theorem countMembers_eq_zero_iff {n : Nat} (a : BitVec n) : countMembers a = 0 ↔ a = 0#n := by
  rw [countMembers_eq_card, Finset.card_eq_zero, Finset.filter_eq_empty_iff]
  constructor
  · intro noMember
    exact eq_of_hasMember fun j => by simpa using noMember (Finset.mem_univ j)
  · rintro rfl
    simp

/-! ### Raised notices (R155, R156) -/

/-- What is left of a notice unit when the part only raises notices at it. -/
inductive RaisedFrom (u : NoticeUnit) : NoticeUnit → Prop
  | refl : RaisedFrom u u
  | raise {v : NoticeUnit} (n : Notice) : RaisedFrom u v → RaisedFrom u (v.raise n.bit)
  | raiseOwn {v : NoticeUnit} (n : OwnNotice) (st : StreamNo) :
      RaisedFrom u v → RaisedFrom u ((v.joinSet n st).raise n.bit)

theorem RaisedFrom.trans {u v w : NoticeUnit} (h : RaisedFrom u v) (k : RaisedFrom v w) : RaisedFrom u w := by
  induction k with
  | refl => exact h
  | raise n _ ih => exact ih.raise n
  | raiseOwn n st _ ih => exact ih.raiseOwn n st

@[simp] theorem NoticeUnit.raise_flags (u : NoticeUnit) (b : Fin 11) : (u.raise b).flags = addMember u.flags b := rfl
@[simp] theorem NoticeUnit.raise_stallSet (u : NoticeUnit) (b : Fin 11) : (u.raise b).stallSet = u.stallSet := rfl
@[simp] theorem NoticeUnit.raise_resumeSet (u : NoticeUnit) (b : Fin 11) : (u.raise b).resumeSet = u.resumeSet := rfl
@[simp] theorem NoticeUnit.raise_skipSet (u : NoticeUnit) (b : Fin 11) : (u.raise b).skipSet = u.skipSet := rfl
@[simp] theorem NoticeUnit.raise_drainedSet (u : NoticeUnit) (b : Fin 11) :
    (u.raise b).drainedSet = u.drainedSet := rfl

@[simp] theorem NoticeUnit.joinSet_flags (u : NoticeUnit) (n : OwnNotice) (st : StreamNo) :
    (u.joinSet n st).flags = u.flags := by cases n <;> rfl

/-- No flag and no member of a stream set is lost from `u` to `v`. -/
structure NoticeUnit.Grows (u v : NoticeUnit) : Prop where
  flags : ∀ b : Fin 11, hasMember u.flags b = true → hasMember v.flags b = true
  stallSet : ∀ st : StreamNo, hasMember u.stallSet st = true → hasMember v.stallSet st = true
  resumeSet : ∀ st : StreamNo, hasMember u.resumeSet st = true → hasMember v.resumeSet st = true
  skipSet : ∀ st : StreamNo, hasMember u.skipSet st = true → hasMember v.skipSet st = true
  drainedSet : ∀ st : StreamNo, hasMember u.drainedSet st = true → hasMember v.drainedSet st = true

theorem hasMember_addMember_of {n : Nat} {a : BitVec n} {j : Fin n} (i : Fin n) (member : hasMember a j = true) :
    hasMember (addMember a i) j = true := by simp [hasMember_addMember, member]

theorem NoticeUnit.Grows.refl (u : NoticeUnit) : u.Grows u :=
  ⟨fun _ => id, fun _ => id, fun _ => id, fun _ => id, fun _ => id⟩

theorem NoticeUnit.Grows.trans {u v w : NoticeUnit} (h : u.Grows v) (k : v.Grows w) : u.Grows w :=
  ⟨fun b => k.flags b ∘ h.flags b, fun st => k.stallSet st ∘ h.stallSet st,
    fun st => k.resumeSet st ∘ h.resumeSet st, fun st => k.skipSet st ∘ h.skipSet st,
    fun st => k.drainedSet st ∘ h.drainedSet st⟩

theorem NoticeUnit.grows_raise (u : NoticeUnit) (b : Fin 11) : u.Grows (u.raise b) :=
  ⟨fun _ => hasMember_addMember_of b, fun _ => id, fun _ => id, fun _ => id, fun _ => id⟩

theorem NoticeUnit.grows_joinSet (u : NoticeUnit) (n : OwnNotice) (st : StreamNo) : u.Grows (u.joinSet n st) := by
  cases n with
  | stall => exact ⟨fun _ => id, fun _ => hasMember_addMember_of st, fun _ => id, fun _ => id, fun _ => id⟩
  | resume => exact ⟨fun _ => id, fun _ => id, fun _ => hasMember_addMember_of st, fun _ => id, fun _ => id⟩
  | skip => exact ⟨fun _ => id, fun _ => id, fun _ => id, fun _ => hasMember_addMember_of st, fun _ => id⟩
  | drained => exact ⟨fun _ => id, fun _ => id, fun _ => id, fun _ => id, fun _ => hasMember_addMember_of st⟩

/-- Raises lose nothing (R156). -/
theorem RaisedFrom.grows {u v : NoticeUnit} (h : RaisedFrom u v) : u.Grows v := by
  induction h with
  | refl => exact .refl u
  | raise n _ ih => exact ih.trans (NoticeUnit.grows_raise _ _)
  | raiseOwn n st _ ih => exact ih.trans ((NoticeUnit.grows_joinSet _ n st).trans (NoticeUnit.grows_raise _ _))

/-- The line after it was brought into agreement (R155). -/
theorem lineAgrees_settle (u : NoticeUnit) : LineAgrees u.settle := by
  simp [LineAgrees, NoticeUnit.settle, ne_zero_iff_hasMember, hasMember_and]

theorem addMember_ne_zero {n : Nat} (a : BitVec n) (i : Fin n) : addMember a i ≠ 0#n :=
  (ne_zero_iff_hasMember _).2 ⟨i, by simp [hasMember_addMember]⟩

/-- A notice that is no OWN notice leaves the OWN flags and their sets in agreement. -/
theorem ownSetsAgree_raise {u : NoticeUnit} (n : Notice) (h : OwnSetsAgree u) : OwnSetsAgree (u.raise n.bit) := by
  obtain ⟨stall, resume, skip, drained⟩ := h
  have other : ∀ b : Fin 11, b.val < 4 → hasMember (addMember u.flags n.bit) b = hasMember u.flags b := by
    intro b low
    have ne : b ≠ n.bit := by
      rintro rfl
      cases n <;> simp [Notice.bit] at low
    simp [hasMember_addMember, ne]
  refine ⟨?_, ?_, ?_, ?_⟩
  all_goals rw [NoticeUnit.raise_flags, other _ (by decide)]
  exacts [stall, resume, skip, drained]

/-- An OWN notice sets its flag and gives its set a member. -/
theorem ownSetsAgree_raiseOwn {u : NoticeUnit} (n : OwnNotice) (st : StreamNo) (h : OwnSetsAgree u) :
    OwnSetsAgree ((u.joinSet n st).raise n.bit) := by
  obtain ⟨stall, resume, skip, drained⟩ := h
  cases n <;> refine ⟨?_, ?_, ?_, ?_⟩ <;>
    simp [NoticeUnit.joinSet, hasMember_addMember, addMember_ne_zero, OwnNotice.bit, stall, resume, skip, drained]

/-- Raises keep a notice unit in order (R155, R156). -/
theorem RaisedFrom.agrees {u v : NoticeUnit} (h : RaisedFrom u v) (agrees : LineAgrees u ∧ OwnSetsAgree u) :
    LineAgrees v ∧ OwnSetsAgree v := by
  induction h with
  | refl => exact agrees
  | raise n _ ih => exact ⟨lineAgrees_settle _, ownSetsAgree_raise n ih.2⟩
  | raiseOwn n st _ ih => exact ⟨lineAgrees_settle _, ownSetsAgree_raiseOwn n st ih.2⟩

/-! ### Stream records whose settings stay (R22, R24, R25) -/

/-- The state and the owner stay, but that an open stream may pass to another open state and a DRAINING one may be
closed (R24, R37, R39, R41). -/
def StateQuiet (r r' : Stream) : Prop :=
  ((r'.state = r.state ∨ (r.state.isOpen = true ∧ r'.state.isOpen = true)) ∧ r'.owner = r.owner) ∨
    (r.state = .draining ∧ r'.state = .closed ∧ r'.owner = none)

theorem StateQuiet.refl (r : Stream) : StateQuiet r r := .inl ⟨.inl rfl, rfl⟩

theorem StateQuiet.trans {a b c : Stream} (h : StateQuiet a b) (k : StateQuiet b c) : StateQuiet a c := by
  obtain ⟨hs, ho⟩ | ⟨hd, hc, hn⟩ := h
  · obtain ⟨ks, ko⟩ | ⟨kd, kc, kn⟩ := k
    · refine .inl ⟨?_, ko.trans ho⟩
      obtain hs | ⟨h1, h2⟩ := hs
      · exact hs ▸ ks
      · obtain ks | ⟨-, k2⟩ := ks
        · exact .inr ⟨h1, ks ▸ h2⟩
        · exact .inr ⟨h1, k2⟩
    · obtain hs | ⟨-, h2⟩ := hs
      · exact .inr ⟨hs ▸ kd, kc, kn⟩
      · simp [kd, StreamState.isOpen] at h2
  · obtain ⟨ks, ko⟩ | ⟨kd, -, -⟩ := k
    · obtain ks | ⟨k1, -⟩ := ks
      · exact .inr ⟨hd, ks.trans hc, ko.trans hn⟩
      · simp [hc, StreamState.isOpen] at k1
    · simp [hc] at kd

/-- The binding and the settings stay, the state and the owner are quiet, and a stopped timer of an unbound stream
stays stopped. -/
structure QuietFrom (r r' : Stream) : Prop where
  binding : r'.binding = r.binding
  mode : r'.mode = r.mode
  quota : r'.quota = r.quota
  expectedLines : r'.expectedLines = r.expectedLines
  stallTimeout : r'.stallTimeout = r.stallTimeout
  lock : r'.lock = r.lock
  state : StateQuiet r r'
  timer : r.binding = none → r.timer = .stopped → r'.timer = .stopped

theorem QuietFrom.refl (r : Stream) : QuietFrom r r := ⟨rfl, rfl, rfl, rfl, rfl, rfl, .refl r, fun _ => id⟩

theorem QuietFrom.trans {a b c : Stream} (h : QuietFrom a b) (k : QuietFrom b c) : QuietFrom a c :=
  ⟨k.binding.trans h.binding, k.mode.trans h.mode, k.quota.trans h.quota, k.expectedLines.trans h.expectedLines,
    k.stallTimeout.trans h.stallTimeout, k.lock.trans h.lock, h.state.trans k.state,
    fun unbound stopped => k.timer (h.binding ▸ unbound) (h.timer unbound stopped)⟩

/-- A quiet change of a stream neither opens nor ends it, and what it commits does not grow (R24, R27). -/
theorem QuietFrom.isOpen {r r' : Stream} (h : QuietFrom r r') : r'.state.isOpen = r.state.isOpen := by
  obtain ⟨same | ⟨before, after⟩, -⟩ | ⟨draining, closed, -⟩ := h.state
  · rw [same]
  · rw [before, after]
  · rw [draining, closed]
    rfl

theorem QuietFrom.committedQuota_le {r r' : Stream} (h : QuietFrom r r') : committedQuota r' ≤ committedQuota r := by
  unfold committedQuota
  rw [h.quota]
  obtain ⟨same | ⟨before, after⟩, -⟩ | ⟨-, closed, -⟩ := h.state
  · rw [same]
  · have notClosed : r.state ≠ .closed := by
      rintro closed
      simp [closed, StreamState.isOpen] at before
    rw [if_neg notClosed]
    split <;> omega
  · simp [closed]

/-! ### Page records (R2, R9 to R15) -/

theorem Page.wellKept_cleared : Page.cleared.WellKept := by decide

theorem Page.wellKept_starting {kind : Byte} (st : StreamNo) (pr : Pair) (number : Word16) (time : Word32)
    (inRange : kind.toNat ≤ 63) : (Page.starting st pr kind number time).WellKept := by
  refine ⟨?_, ?_, ?_, ((countMembers_eq_zero_iff 0#8).2 rfl).symm, inRange⟩
  · simp [Page.DirectoryAgrees, Page.starting, Page.cleared]
  · simp [Page.MetadataFits, Page.starting, Page.cleared]
  · simp [Page.FieldsOfState, Page.starting, Page.cleared]

/-- A held page is READY: a FREE or FILLING one has no holder (R2). -/
theorem Page.WellKept.ready_of_holder {r : Page} (h : r.WellKept) {i : Fin 8} (holder : hasMember r.holders i = true) :
    r.state = .ready := by
  obtain ⟨-, -, ⟨free, -, filling, -⟩, -, -⟩ := h
  cases state : r.state with
  | ready => rfl
  | free => simp [free state, Page.cleared, hasMember] at holder
  | filling => simp [(filling state).2.2.2] at holder

theorem Page.WellKept.hold {r : Page} (h : r.WellKept) (ready : r.state = .ready) (x : Holder) :
    (r.hold x).WellKept := by
  unfold Page.hold
  split
  · exact h
  · next new =>
    obtain ⟨directory, metadata, ⟨-, present, -, fields⟩, count, kind⟩ := h
    obtain ⟨sequence, ended, -⟩ := fields ready
    refine ⟨directory, metadata, ⟨?_, present, ?_, fun _ => ⟨sequence, ended, fun _ => rfl⟩⟩, ?_, kind⟩
    · simp [ready]
    · simp [ready]
    · simp [countMembers_addMember (Bool.eq_false_iff.2 new), count]

theorem Page.WellKept.unhold {r : Page} (h : r.WellKept) {x : Holder} (holder : hasMember r.holders x.bit = true) :
    (r.unhold x).WellKept := by
  have ready := h.ready_of_holder holder
  obtain ⟨directory, metadata, ⟨-, present, -, fields⟩, count, kind⟩ := h
  obtain ⟨sequence, ended, viewed⟩ := fields ready
  have wasHeld : r.holders ≠ 0#8 := (ne_zero_iff_hasMember _).2 ⟨_, holder⟩
  refine ⟨directory, metadata, ⟨?_, present, ?_, fun _ => ⟨sequence, ended, fun _ => viewed wasHeld⟩⟩, ?_, kind⟩
  · simp [Page.unhold, ready]
  · simp [Page.unhold, ready]
  · simp [Page.unhold, countMembers_dropMember holder, count]

/-- The fields that a FILLING page's record keeps through a store. -/
theorem Page.FieldsOfState.of_filling {r r' : Page} (h : r.FieldsOfState) (filling : r.state = .filling)
    (state : r'.state = r.state) (stream : r'.stream = r.stream) (producer : r'.producer = r.producer)
    (sequence : r'.sequence = r.sequence) (endTime : r'.endTime = r.endTime) (viewed : r'.viewed = r.viewed)
    (holders : r'.holders = r.holders) : r'.FieldsOfState := by
  obtain ⟨-, present, kept, -⟩ := h
  refine ⟨?_, ?_, ?_, ?_⟩
  · simp [state, filling]
  · rw [state, stream, producer]
    exact present
  · rw [state, sequence, endTime, viewed, holders]
    exact kept
  · simp [state, filling]

theorem Page.WellKept.truncated {r : Page} (h : r.WellKept) (filling : r.state = .filling) (damage : BitVec 6) :
    ({ r with damage := damage } : Page).WellKept := by
  obtain ⟨directory, metadata, fields, count, kind⟩ := h
  exact ⟨directory, metadata, fields.of_filling filling rfl rfl rfl rfl rfl rfl rfl, count, kind⟩

theorem Page.WellKept.withLine {r : Page} (h : r.WellKept) (filling : r.state = .filling) {length : Nat}
    (number : Nat) (good : Bool) (fits : lineFits r length = true) (low : 1 ≤ length)
    (high : length ≤ Config.maxLineBytes) : (r.withLine number length good).WellKept := by
  obtain ⟨⟨counted, lines, used, bytes, each⟩, metadata, fields, count, kind⟩ := h
  obtain ⟨room, slot⟩ := (lineFits_iff r length).1 fits
  refine ⟨⟨?_, ?_, ?_, ?_, ?_⟩, metadata, fields.of_filling filling rfl rfl rfl rfl rfl rfl rfl, count, kind⟩
  · simp [Page.withLine, counted]
  · simpa [Page.withLine, Config.maxLines] using room
  · simp [Page.withLine, used]
  · simpa [Page.withLine, Config.slotBytes] using slot
  · intro n listed
    rcases List.mem_append.1 listed with before | new
    · exact each n before
    · simp only [List.mem_singleton] at new
      exact new ▸ ⟨low, high⟩

theorem Page.WellKept.withMetadata {r : Page} (h : r.WellKept) (filling : r.state = .filling) {payload : List Byte}
    (good : Bool) (hasBytes : 1 ≤ payload.length) : (r.withMetadata payload good).WellKept := by
  obtain ⟨directory, fits, fields, count, kind⟩ := h
  have room : (r.metadata.getD []).length ≤ 64 := by
    cases metadata : r.metadata with
    | none => simp
    | some m => exact (fits m metadata).2
  rw [Page.withMetadata_eq good hasBytes room]
  refine ⟨directory, ?_, fields.of_filling filling rfl rfl rfl rfl rfl rfl rfl, count, kind⟩
  intro m joined
  obtain rfl : (r.metadata.getD [] ++ payload).take 64 = m := by simpa using joined
  simp only [List.length_take, List.length_append, Config.maxMetadata]
  omega

theorem Page.WellKept.published {r : Page} (h : r.WellKept) (filling : r.state = .filling) (damage : BitVec 6)
    (sequence time : Word32) : (r.published damage sequence time).WellKept := by
  obtain ⟨directory, metadata, ⟨-, present, kept, -⟩, count, kind⟩ := h
  obtain ⟨-, -, -, unheld⟩ := kept filling
  refine ⟨directory, metadata, ⟨?_, fun _ => present (by simp [filling]), ?_, fun _ => ⟨rfl, rfl, ?_⟩⟩, count, kind⟩
  · simp [Page.published]
  · simp [Page.published]
  · simp [Page.published, unheld]

/-! ### The pool after one page or the free list changed (R4) -/

theorem PagesWellKept.setPage {s : State} (h : PagesWellKept s) {g : PageNo} {r : Page} (kept : r.WellKept) :
    PagesWellKept (s.setPage g r) := by
  intro j
  rw [State.setPage_page]
  split
  · exact kept
  · exact h j

/-- A page that is FREE before and after a change of its record, or at neither time, stays where it is. -/
theorem FreeListExact.setPage {s : State} (h : FreeListExact s) {g : PageNo} {r : Page}
    (same : r.state = .free ↔ (s.page g).state = .free) : FreeListExact (s.setPage g r) := by
  refine ⟨h.1, fun j => ?_⟩
  rw [State.setPage_page]
  split
  · next e => exact (h.2 j).trans (e ▸ same.symm)
  · exact h.2 j

/-- A page that was not FREE joins the tail when it is cleared (R14, R15). -/
theorem FreeListExact.clearToFree {s : State} (h : FreeListExact s) {g : PageNo} (used : (s.page g).state ≠ .free) :
    FreeListExact (clearToFree g s) := by
  have absent : g ∉ s.freeList := fun listed => used ((h.2 g).1 listed)
  refine ⟨List.nodup_append.2 ⟨h.1, by simp, ?_⟩, fun j => ?_⟩
  · rintro a listed b isG rfl
    simp only [List.mem_singleton] at isG
    exact absent (isG ▸ listed)
  · rw [clearToFree_page]
    change j ∈ s.freeList ++ [g] ↔ _
    by_cases e : g = j
    · simp [e, Page.cleared]
    · simp [e, Ne.symm e, h.2 j]

/-- The head of the free list leaves it when it takes a record that is not FREE (R7). -/
theorem FreeListExact.take_head {s : State} (h : FreeListExact s) {g : PageNo} {rest : List PageNo} {r : Page}
    (head : s.freeList = g :: rest) (used : r.state ≠ .free) :
    FreeListExact ({ s with freeList := rest }.setPage g r) := by
  obtain ⟨nodup, exact⟩ := h
  rw [head] at nodup
  obtain ⟨absent, restNodup⟩ := List.nodup_cons.1 nodup
  refine ⟨restNodup, fun j => ?_⟩
  rw [State.setPage_page]
  change j ∈ rest ↔ _
  by_cases e : g = j
  · subst e
    simp [used, absent]
  · have before := exact j
    simp only [head, List.mem_cons, Ne.symm e, false_or] at before
    simpa [e] using before

end Machine

end Sys2Proof

/-! `Upkeep`: what every operation keeps of notices, streams and pool. One lemma for each operation of
Sys2Proof/Machine/Ops.lean and for what the meanings build from them. -/

namespace Sys2Proof.Machine

/-! ### The take of a stream's page, one choice at a time (R117 to R119) -/

/-- What a flip shows when the stream has no candidate (R118, R119). -/
def withoutCandidate (p : Port) (st : StreamNo) (s : State) : State :=
  if (s.stream st).state = .stalled then stallFrame p s else noCandidate p s

theorem takeFromStream_of_none {p : Port} {st : StreamNo} {s : State} (tries : Nat)
    (no : candidate (s.stream st) (s.egress p).cursor = none) :
    takeFromStream p st tries s = withoutCandidate p st s := by
  cases tries <;> simp [takeFromStream, no, withoutCandidate]

theorem takeFromStream_zero (p : Port) (st : StreamNo) (s : State) :
    takeFromStream p st 0 s = withoutCandidate p st s := by simp [takeFromStream, withoutCandidate]

/-- The state after a flip took the candidate `c` (R117). -/
def takeCandidate (p : Port) (st : StreamNo) (mode : Mode) (c : ReadyEntry) (released : State) : State :=
  evaluateRelease st ((takeHold (.egress p) c.page released).modEgress p fun e => e.take mode c)

theorem takeFromStream_of_some {p : Port} {st : StreamNo} {s : State} {c : ReadyEntry} (tries : Nat)
    (found : candidate (s.stream st) (s.egress p).cursor = some c) :
    takeFromStream p st (tries + 1) s =
      if ((releaseUnless p c.page s).page c.page).state = .ready then
        takeCandidate p st (s.stream st).mode c (releaseUnless p c.page s)
      else takeFromStream p st tries (releaseUnless p c.page s) := by
  conv_lhs => unfold takeFromStream
  simp only [found]
  rfl

/-- A rule for what a take does: it ends without a candidate, or takes one that is READY, each time after releases. -/
theorem takeFromStream_induction {p : Port} {st : StreamNo} {P : State → State → Prop}
    (without : ∀ s, P s (withoutCandidate p st s))
    (take : ∀ s c, candidate (s.stream st) (s.egress p).cursor = some c →
      ((releaseUnless p c.page s).page c.page).state = .ready →
      P s (takeCandidate p st (s.stream st).mode c (releaseUnless p c.page s)))
    (again : ∀ s c t, candidate (s.stream st) (s.egress p).cursor = some c →
      ((releaseUnless p c.page s).page c.page).state ≠ .ready → P (releaseUnless p c.page s) t → P s t)
    (tries : Nat) (s : State) : P s (takeFromStream p st tries s) := by
  induction tries generalizing s with
  | zero => exact takeFromStream_zero p st s ▸ without s
  | succ tries ih =>
    cases found : candidate (s.stream st) (s.egress p).cursor with
    | none => exact takeFromStream_of_none (tries + 1) found ▸ without s
    | some c =>
      rw [takeFromStream_of_some tries found]
      split
      · next ready => exact take s c found ready
      · next declined => exact again s c _ found declined (ih _)

/-! ### Upkeep -/

@[simp] theorem Page.hold_state (r : Page) (h : Holder) : (r.hold h).state = r.state := by
  unfold Page.hold
  split <;> rfl

/-- The records that an event may change as it likes: the notice units of ports, the settings of streams, the
subscriptions of ports, and its own records elsewhere. -/
structure Exempt where
  notice : Port → Prop := fun _ => False
  stream : StreamNo → Prop := fun _ => False
  subscriber : Port → Prop := fun _ => False
  inReset : Prop := False
  cfgHold : Prop := False
  timeBase : Prop := False
  frameStore : Prop := False
  pattern : EntryNo → Prop := fun _ => False
  pin : Port → Prop := fun _ => False
  capture : Port → Prop := fun _ => False
  egress : Port → Prop := fun _ => False
  link : Port → Prop := fun _ => False

/-- From `s` to `t` the records outside pool, streams and notices stay, but for what `x` exempts. -/
structure Within (x : Exempt) (s t : State) : Prop where
  pending : t.pending = s.pending
  inReset : ¬ x.inReset → t.inReset = s.inReset
  cfgHold : ¬ x.cfgHold → t.cfgHold = s.cfgHold
  timeBase : ¬ x.timeBase → t.timeBase = s.timeBase
  frameStore : ¬ x.frameStore → t.frameStore = s.frameStore
  pattern : ∀ e, ¬ x.pattern e → t.pattern e = s.pattern e
  pin : ∀ p, ¬ x.pin p → t.pin p = s.pin p
  capture : ∀ p, ¬ x.capture p → t.capture p = s.capture p
  egress : ∀ p, ¬ x.egress p → t.egress p = s.egress p
  link : ∀ p, ¬ x.link p → t.link p = s.link p

namespace Within

variable {x : Exempt} {s t u : State}

theorem trans (h : Within x s t) (k : Within x t u) : Within x s u :=
  ⟨k.pending.trans h.pending, fun n => (k.inReset n).trans (h.inReset n), fun n => (k.cfgHold n).trans (h.cfgHold n),
    fun n => (k.timeBase n).trans (h.timeBase n), fun n => (k.frameStore n).trans (h.frameStore n),
    fun e n => (k.pattern e n).trans (h.pattern e n), fun p n => (k.pin p n).trans (h.pin p n),
    fun p n => (k.capture p n).trans (h.capture p n), fun p n => (k.egress p n).trans (h.egress p n),
    fun p n => (k.link p n).trans (h.link p n)⟩

theorem of_poolOnly (h : PoolOnly s t) : Within x s t :=
  ⟨h.pending, fun _ => h.inReset, fun _ => h.cfgHold, fun _ => h.timeBase, fun _ => h.frameStore,
    fun e _ => h.pattern e, fun p _ => h.pin p, fun p _ => h.capture p, fun p _ => h.egress p, fun p _ => h.link p⟩

theorem setEgress {p : Port} (own : x.egress p) (e : Egress) (s : State) : Within x s (s.setEgress p e) :=
  ⟨rfl, fun _ => rfl, fun _ => rfl, fun _ => rfl, fun _ => rfl, fun _ _ => rfl, fun _ _ => rfl, fun _ _ => rfl,
    fun _ kept => State.setEgress_egress_ne _ _ fun same => kept (same ▸ own), fun _ _ => rfl⟩

theorem setCapture {p : Port} (own : x.capture p) (u : Capture) (s : State) : Within x s (s.setCapture p u) :=
  ⟨rfl, fun _ => rfl, fun _ => rfl, fun _ => rfl, fun _ => rfl, fun _ _ => rfl, fun _ _ => rfl,
    fun _ kept => State.setCapture_capture_ne _ _ fun same => kept (same ▸ own), fun _ _ => rfl, fun _ _ => rfl⟩

theorem setPin {p : Port} (own : x.pin p) (v : Option PageNo) (s : State) : Within x s (s.setPin p v) :=
  ⟨rfl, fun _ => rfl, fun _ => rfl, fun _ => rfl, fun _ => rfl, fun _ _ => rfl,
    fun _ kept => State.setPin_pin_ne _ _ fun same => kept (same ▸ own), fun _ _ => rfl, fun _ _ => rfl, fun _ _ => rfl⟩

theorem setPattern {e : EntryNo} (own : x.pattern e) (r : PatternEntry) (s : State) : Within x s (s.setPattern e r) :=
  ⟨rfl, fun _ => rfl, fun _ => rfl, fun _ => rfl, fun _ => rfl,
    fun _ kept => State.setPattern_pattern_ne _ _ fun same => kept (same ▸ own), fun _ _ => rfl, fun _ _ => rfl,
    fun _ _ => rfl, fun _ _ => rfl⟩

theorem setLink {p : Port} (own : x.link p) (a : Option Answer) (s : State) : Within x s (s.setLink p a) :=
  ⟨rfl, fun _ => rfl, fun _ => rfl, fun _ => rfl, fun _ => rfl, fun _ _ => rfl, fun _ _ => rfl, fun _ _ => rfl,
    fun _ _ => rfl, fun _ kept => State.setLink_link_ne _ _ fun same => kept (same ▸ own)⟩

end Within

/-- From `s` to `t` notices are only raised, stream settings stay, subscribers stay, the page records and the free
list stay in order, and every other record stays; but for what `x` exempts. -/
structure Upkeep (x : Exempt) (s t : State) : Prop where
  notices : ∀ p, ¬ x.notice p → RaisedFrom (s.notice p) (t.notice p)
  streams : ∀ st, ¬ x.stream st → QuietFrom (s.stream st) (t.stream st)
  subscribers : ∀ st p, ¬ x.subscriber p →
    hasMember (t.stream st).subscribers p = hasMember (s.stream st).subscribers p
  pages : PagesWellKept s → PagesWellKept t
  freeList : FreeListExact s → FreeListExact t
  within : Within x s t

namespace Upkeep

variable {x : Exempt} {s t u : State}

theorem refl (x : Exempt) (s : State) : Upkeep x s s :=
  ⟨fun _ _ => .refl, fun _ _ => .refl _, fun _ _ _ => rfl, id, id, .of_poolOnly (.refl s)⟩

theorem trans (h : Upkeep x s t) (k : Upkeep x t u) : Upkeep x s u :=
  ⟨fun p n => (h.notices p n).trans (k.notices p n), fun st n => (h.streams st n).trans (k.streams st n),
    fun st p n => (k.subscribers st p n).trans (h.subscribers st p n), k.pages ∘ h.pages, k.freeList ∘ h.freeList,
    h.within.trans k.within⟩

theorem foldl {α : Type} {f : State → α → State} (h : ∀ s a, Upkeep x s (f s a)) (l : List α) (s : State) :
    Upkeep x s (l.foldl f s) := by
  induction l generalizing s with
  | nil => exact .refl x s
  | cons a rest ih => exact (h s a).trans (ih _)

/-- A change of records other than notices, streams, pages and the free list. -/
theorem of_same (within : Within x s t) (notices : t.notices = s.notices) (streams : t.streams = s.streams)
    (pages : t.pages = s.pages) (freeList : t.freeList = s.freeList) : Upkeep x s t := by
  have notice : ∀ p, t.notice p = s.notice p := fun p => by simp [State.notice, notices]
  have stream : ∀ st, t.stream st = s.stream st := fun st => by simp [State.stream, streams]
  have page : ∀ g, t.page g = s.page g := fun g => by simp [State.page, pages]
  refine ⟨fun p _ => notice p ▸ .refl, fun st _ => stream st ▸ .refl _, fun st _ _ => by rw [stream], ?_, ?_, within⟩
  · exact fun h g => page g ▸ h g
  · exact fun h => ⟨freeList ▸ h.1, fun g => by rw [freeList, page]; exact h.2 g⟩

/-! ### One record replaced -/

theorem setNotice {p : Port} {v : NoticeUnit} (h : x.notice p ∨ RaisedFrom (s.notice p) v) :
    Upkeep x s (s.setNotice p v) := by
  refine ⟨fun q kept => ?_, fun _ _ => .refl _, fun _ _ _ => rfl, id, id, .of_poolOnly (.setNotice ..)⟩
  rw [State.setNotice_notice]
  split
  · next e => exact (e ▸ h).resolve_left kept
  · exact .refl

theorem setStream {st : StreamNo} {r : Stream} (quiet : x.stream st ∨ QuietFrom (s.stream st) r)
    (subscribers : ∀ p, ¬ x.subscriber p → hasMember r.subscribers p = hasMember (s.stream st).subscribers p) :
    Upkeep x s (s.setStream st r) := by
  refine ⟨fun _ _ => .refl, fun n kept => ?_, fun n p kept => ?_, id, id, .of_poolOnly (.setStream ..)⟩
  · rw [State.setStream_stream]
    split
    · next e => exact (e ▸ quiet).resolve_left kept
    · exact .refl _
  · rw [State.setStream_stream]
    split
    · next e => exact (subscribers p kept).trans (by rw [e])
    · rfl

/-- A stream record of which only fields outside `QuietFrom` and the subscribers change. -/
theorem setStream_counters {st : StreamNo} {r : Stream}
    (h : r = { s.stream st with
      nextSequence := r.nextSequence, lastSequence := r.lastSequence, ready := r.ready, filling := r.filling
      lastStart := r.lastStart, lastInterval := r.lastInterval, published := r.published, skipped := r.skipped
      aborted := r.aborted, reclaimed := r.reclaimed, damaged := r.damaged }) :
    Upkeep x s (s.setStream st r) := by
  refine setStream (.inr ?_) fun p _ => by rw [h]
  rw [h]
  exact ⟨rfl, rfl, rfl, rfl, rfl, rfl, .inl ⟨.inl rfl, rfl⟩, fun _ => id⟩

theorem setPage {g : PageNo} {r : Page} (kept : PagesWellKept s → r.WellKept)
    (free : r.state = .free ↔ (s.page g).state = .free) : Upkeep x s (s.setPage g r) :=
  ⟨fun _ _ => .refl, fun _ _ => .refl _, fun _ _ _ => rfl, fun h => h.setPage (kept h), fun h => h.setPage free,
    .of_poolOnly (.setPage ..)⟩

/-! ### Raises (R156) -/

theorem raiseAt (p : Port) (n : Notice) (s : State) : Upkeep x s (raiseAt p n s) :=
  setNotice (.inr (RaisedFrom.refl.raise n))

theorem raiseOwn (n : OwnNotice) (st : StreamNo) (s : State) : Upkeep x s (raiseOwn n st s) := by
  unfold Machine.raiseOwn
  split
  · exact .refl x s
  · exact setNotice (.inr (RaisedFrom.refl.raiseOwn n st))

theorem raiseFollowersLost (k : Port) (s : State) : Upkeep x s (raiseFollowersLost k s) := by
  refine foldl (fun s j => ?_) allPorts s
  split
  · exact .raiseAt ..
  · exact .refl x s

/-! ### Claims and releases (R7 to R18, R86 to R89) -/

theorem leaveReadyList (st : StreamNo) (g : PageNo) (s : State) : Upkeep x s (leaveReadyList st g s) :=
  setStream_counters rfl

theorem clearToFree {g : PageNo} (used : (s.page g).state ≠ .free) : Upkeep x s (clearToFree g s) :=
  ⟨fun _ _ => .refl, fun _ _ => .refl _, fun _ _ _ => rfl, fun h => h.setPage Page.wellKept_cleared,
    fun h => h.clearToFree used, .of_poolOnly (.clearToFree ..)⟩

theorem freeFilling (g : PageNo) (s : State) : Upkeep x s (freeFilling g s) := by
  unfold Machine.freeFilling
  split
  · next filling => exact clearToFree (by simp [filling])
  · exact .refl x s

theorem freeReady (g : PageNo) (s : State) : Upkeep x s (freeReady g s) := by
  unfold Machine.freeReady
  split
  · next unheld =>
    have used : (s.page g).state ≠ .free := by
      simp only [unheldReady, Bool.and_eq_true, decide_eq_true_eq] at unheld
      simp [unheld.1]
    split
    · exact (leaveReadyList ..).trans (clearToFree used)
    · exact clearToFree used
  · exact .refl x s

theorem freeAll (l : List PageNo) (s : State) : Upkeep x s (freeAll l s) := foldl (fun s g => .freeReady g s) l s

theorem endDrain (st : StreamNo) (s : State) : Upkeep x s (endDrain st s) := by
  unfold Machine.endDrain
  split
  · next ended =>
    refine (raiseOwn .drained st s).trans (setStream (.inr ?_) fun _ _ => rfl)
    exact ⟨rfl, rfl, rfl, rfl, rfl, rfl, .inr ⟨by simpa using ended.1, rfl, rfl⟩, fun _ => id⟩
  · exact .refl x s

theorem evaluateRelease (st : StreamNo) (s : State) : Upkeep x s (evaluateRelease st s) :=
  (freeAll ..).trans (endDrain ..)

theorem evaluateReleaseOf (g : PageNo) (s : State) : Upkeep x s (evaluateReleaseOf g s) := by
  unfold Machine.evaluateReleaseOf
  split
  · exact .evaluateRelease ..
  · exact .refl x s

theorem takeHold (h : Holder) (g : PageNo) (s : State) : Upkeep x s (takeHold h g s) := by
  unfold Machine.takeHold
  split
  · next ready =>
    exact setPage (fun kept => (kept g).hold ready h) (by rw [Page.hold_state])
  · exact .refl x s

theorem releaseHold (h : Holder) (g : PageNo) (s : State) : Upkeep x s (releaseHold h g s) := by
  unfold Machine.releaseHold
  split
  · next holder => exact (setPage (fun kept => (kept g).unhold holder) .rfl).trans (.evaluateReleaseOf ..)
  · exact .refl x s

theorem setEgress {p : Port} (own : x.egress p) (e : Egress) (s : State) : Upkeep x s (s.setEgress p e) :=
  .of_same (.setEgress own e s) rfl rfl rfl rfl
theorem setPin {p : Port} (own : x.pin p) (v : Option PageNo) (s : State) : Upkeep x s (s.setPin p v) :=
  .of_same (.setPin own v s) rfl rfl rfl rfl
theorem setCapture {p : Port} (own : x.capture p) (u : Capture) (s : State) : Upkeep x s (s.setCapture p u) :=
  .of_same (.setCapture own u s) rfl rfl rfl rfl
theorem setContext {p : Port} (own : x.capture p) (t : Tag) (c : Context) (s : State) :
    Upkeep x s (s.setContext p t c) := setCapture own _ s
theorem setLink {p : Port} (own : x.link p) (a : Option Answer) (s : State) : Upkeep x s (s.setLink p a) :=
  .of_same (.setLink own a s) rfl rfl rfl rfl

theorem dropHeld {p : Port} (own : x.egress p) (s : State) : Upkeep x s (dropHeld p s) := by
  unfold Machine.dropHeld
  split
  · exact .refl x s
  · exact (setEgress own ..).trans (.releaseHold ..)

theorem dropPin {p : Port} (own : x.pin p) (s : State) : Upkeep x s (dropPin p s) := by
  unfold Machine.dropPin
  split
  · exact .refl x s
  · exact (setPin own ..).trans (.releaseHold ..)

/-- A stream record of which only the subscribers change, and those of exempt ports alone. -/
theorem setSubscribers {st : StreamNo} {set : BitVec 4}
    (others : ∀ p, ¬ x.subscriber p → hasMember set p = hasMember (s.stream st).subscribers p) :
    Upkeep x s (s.setStream st { s.stream st with subscribers := set }) :=
  setStream (.inr ⟨rfl, rfl, rfl, rfl, rfl, rfl, .refl _, fun _ => id⟩) others

theorem leaveSubscription {p : Port} (own : x.subscriber p) (s : State) : Upkeep x s (leaveSubscription p s) := by
  unfold Machine.leaveSubscription
  split
  · refine (setSubscribers fun q kept => ?_).trans (.evaluateRelease ..)
    have ne : q ≠ p := fun e => kept (e ▸ own)
    simp [hasMember_dropMember, ne]
  · exact .refl x s

/-! ### Aborts (R85) -/

theorem abortFrame (g : PageNo) (s : State) : Upkeep x s (abortFrame g s) := by
  unfold Machine.abortFrame
  split
  · split
    · exact .freeFilling ..
    · exact (freeFilling ..).trans ((setStream_counters rfl).trans (.raiseOwn ..))
  · exact .refl x s

theorem abortContext (p : Port) (t : Tag) (s : State) : Upkeep x s (abortContext p t s) := by
  unfold Machine.abortContext
  split
  · exact .abortFrame ..
  · exact .refl x s

theorem abortContexts (p : Port) (tags : List Tag) (s : State) : Upkeep x s (abortContexts p tags s) :=
  foldl (fun s t => .abortContext p t s) tags s

/-! ### The flip (R102, R115 to R122) -/

theorem clearCursor {p : Port} (own : x.egress p) (s : State) : Upkeep x s (clearCursor p s) := by
  unfold Machine.clearCursor
  split
  · exact (setEgress own ..).trans (.evaluateRelease ..)
  · exact setEgress own ..

theorem stoppingFlip {p : Port} (own : x.egress p) (s : State) : Upkeep x s (stoppingFlip p s) :=
  (dropHeld own s).trans ((clearCursor own ..).trans ((setEgress own ..).trans (.raiseFollowersLost ..)))

theorem trackTotal {p : Port} (own : x.egress p) (s : State) : Upkeep x s (trackTotal p s) := by
  unfold Machine.trackTotal
  dsimp only
  split
  · exact (setEgress own ..).trans (.raiseAt ..)
  · exact setEgress own ..

theorem showBlank {p : Port} (own : x.egress p) (s : State) : Upkeep x s (showBlank p s) :=
  (dropHeld own s).trans (setEgress own ..)

theorem showOwnPattern {p : Port} (own : x.egress p) (s : State) : Upkeep x s (showOwnPattern p s) :=
  (dropHeld own s).trans (setEgress own ..)

theorem repeatPage {p : Port} (own : x.egress p) (s : State) : Upkeep x s (repeatPage p s) := setEgress own ..

theorem noCandidate {p : Port} (own : x.egress p) (s : State) : Upkeep x s (noCandidate p s) := by
  unfold Machine.noCandidate
  split
  · exact .repeatPage own ..
  · exact .showOwnPattern own ..
  · exact .showBlank own ..
  · exact .showBlank own ..

theorem stallFrame {p : Port} (own : x.egress p) (s : State) : Upkeep x s (stallFrame p s) := by
  unfold Machine.stallFrame
  split
  · exact .repeatPage own ..
  · exact .showBlank own ..
  · exact .showOwnPattern own ..
  · exact .showBlank own ..

theorem releaseUnless {p : Port} (own : x.egress p) (g : PageNo) (s : State) : Upkeep x s (releaseUnless p g s) := by
  unfold Machine.releaseUnless
  split
  · exact .refl x s
  · exact .dropHeld own ..

theorem withoutCandidate {p : Port} (own : x.egress p) (st : StreamNo) (s : State) :
    Upkeep x s (withoutCandidate p st s) := by
  unfold Machine.withoutCandidate
  split
  · exact .stallFrame own ..
  · exact .noCandidate own ..

theorem takeFromStream {p : Port} (own : x.egress p) (st : StreamNo) (tries : Nat) (s : State) :
    Upkeep x s (takeFromStream p st tries s) := by
  refine takeFromStream_induction (P := Upkeep x) (withoutCandidate own st) (fun s c _ _ => ?_)
    (fun s c t _ _ later => (releaseUnless own c.page s).trans later) tries s
  exact (releaseUnless own ..).trans ((takeHold ..).trans ((setEgress own ..).trans (.evaluateRelease ..)))

theorem followPage {p : Port} (own : x.egress p) (g : PageNo) (s : State) : Upkeep x s (followPage p g s) := by
  unfold Machine.followPage
  split
  · exact (repeatPage own s).trans (setEgress own ..)
  · refine (dropHeld own s).trans ?_
    dsimp only
    split
    · exact (takeHold ..).trans (setEgress own ..)
    · exact .showBlank own ..

theorem takeFromLeader {p : Port} (own : x.egress p) (k : Port) (s : State) : Upkeep x s (takeFromLeader p k s) := by
  unfold Machine.takeFromLeader
  dsimp only
  split
  · exact .showBlank own ..
  · exact .followPage own ..
  · exact (dropHeld own s).trans (setEgress own ..)
  · exact .showBlank own ..

theorem chooseFrame {p : Port} (own : x.egress p) (s : State) : Upkeep x s (chooseFrame p s) := by
  unfold Machine.chooseFrame
  dsimp only
  split
  · exact .showBlank own ..
  · split
    · exact .repeatPage own ..
    · exact .takeFromStream own ..
  · split
    · exact .repeatPage own ..
    · exact .takeFromLeader own ..

theorem settleFallback {p : Port} (own : x.egress p) (before : Showing) (s : State) :
    Upkeep x s (settleFallback p before s) := by
  unfold Machine.settleFallback
  split
  · exact .refl x s
  · dsimp only
    split
    · exact (setEgress own ..).trans (.raiseAt ..)
    · exact setEgress own ..

theorem fullFlip {p : Port} (own : x.egress p) (s : State) : Upkeep x s (fullFlip p s) :=
  (setEgress own ..).trans <| (trackTotal own ..).trans <| (chooseFrame own ..).trans <|
    (settleFallback own ..).trans <| (setEgress own ..).trans (setEgress own ..)

theorem flipDecision {p : Port} (own : x.egress p) (s : State) : Upkeep x s (flipDecision p s) := by
  unfold Machine.flipDecision
  split
  · exact .stoppingFlip own ..
  · exact .fullFlip own ..

end Upkeep

end Sys2Proof.Machine

/-! What an event can do, said once: `Effect s c u` names the state `u` to which each event `c` takes the state `s` when
it passes its tests, with these tests; `exec_leaves` says that `exec` leaves nothing else, a refusal and the answer on
the link apart. -/

namespace Sys2Proof.Machine

/-! ### The effect of each event -/

/-- The commands that change nothing but the link (R150, R153, R154, R169, R138). -/
def isReading : Instr → Prop
  | .readId _ => True
  | .readTime _ => True
  | .queryStream _ _ => True
  | .queryEgress _ _ => True
  | .queryPage _ _ => True
  | .queryIngress _ _ => True
  | .readLine _ _ _ _ _ => True
  | .readMeta _ _ => True
  | .readPattern _ _ => True
  | _ => False

/-- The packets that fail their header check (R51). -/
def failsHeaderCheck : Instr → Port → Prop
  | .formatError p, q => p = q
  | .frameStart p _ kind _, q => p = q ∧ frameStartInRange kind = false
  | .line p _ number payload _, q => p = q ∧ lineInRange number payload = false
  | .sideband p _ payload _, q => p = q ∧ sidebandInRange payload = false
  | .frameEnd p _ status claimed, q => p = q ∧ frameEndInRange status claimed = false
  | _, _ => False

/-- `Effect s c u`: the tests of `c` pass in `s`, and its effect is `u`. -/
inductive Effect (s : State) : Instr → State → Prop
  | read {c : Instr} : isReading c → Effect s c s
  | resetPort (p : Port) : Effect s (.resetPort p) (resetPort p s)
  | openStream {p : Port} {b pp tg md q : Byte} {lines timeout : Word16} {st : StreamNo} {pr : Pair} {mode : Mode} :
      b.toNat = st.val → streamValuesInRange q lines timeout = true → s.cfgHold = false →
      (s.stream st).state = .closed → (∀ n, (s.stream n).binding ≠ some pr) →
      committedSum s + q.toNat ≤ Config.poolPages →
      Effect s (.openStream p b pp tg md q lines timeout)
        (s.setStream st (Stream.opened p pr mode q.toNat lines.toNat timeout.toNat))
  | setStream {p : Port} {b q : Byte} {lines timeout : Word16} {st : StreamNo} :
      b.toNat = st.val → streamValuesInRange q lines timeout = true → ownerTests p st true s = none →
      pageCount s st ≤ q.toNat →
      (q.toNat ≤ (s.stream st).quota ∨ committedSum s - (s.stream st).quota + q.toNat ≤ Config.poolPages) →
      Effect s (.setStream p b q lines timeout)
        (s.setStream st ((s.stream st).withValues q.toNat lines.toNat timeout.toNat))
  | closeStream {p : Port} {b : Byte} {st : StreamNo} : b.toNat = st.val → ownerTests p st true s = none →
      Effect s (.closeStream p b) (closeDrain st (closeSubscriptions st (closeUnbind st s)))
  | lockStream {p : Port} {b : Byte} {st : StreamNo} : b.toNat = st.val → ownerTests p st false s = none →
      Effect s (.lockStream p b) (s.setStream st { s.stream st with lock := true })
  | setTiming {p : Port} {lp a t n : Word16} {bp fp tg : Byte} {timing : TimingSet} :
      argTiming lp a bp fp t n tg = some timing → (s.egress p).lock = false →
      Effect s (.setTiming p lp a bp fp t n tg) (s.setEgress p ((s.egress p).storeTiming timing))
  | startEgress {p : Port} : (s.egress p).lock = false → (s.egress p).run = .stopped →
      Effect s (.startEgress p) (startEgress p s)
  | stopEgress {p : Port} : (s.egress p).lock = false →
      Effect s (.stopEgress p) (s.setEgress p
        { s.egress p with stopPending := decide ((s.egress p).run = .running) || (s.egress p).stopPending })
  | setTracking {p : Port} {b w : Byte} {mode : TrackingMode} : (s.egress p).lock = false →
      Effect s (.setTracking p b w) (s.setEgress p
        { s.egress p with tracking := mode, window := w.toNat, trackRequest := false, manualTotal := none })
  | trackNow {p : Port} : (s.egress p).lock = false → (s.egress p).tracking = .manual →
      Effect s (.trackNow p) (s.setEgress p { s.egress p with trackRequest := true })
  | subscribe {p : Port} {b : Byte} {st : StreamNo} : b.toNat = st.val → (s.egress p).lock = false →
      (s.stream st).state.isOpen = true → Effect s (.subscribe p b) (subscribe p st s)
  | follow {p k : Port} {b : Byte} : b.toNat = k.val → k ≠ p → (s.egress p).lock = false →
      (s.egress k).source.isFollow = false → isFollowed s p = false →
      Effect s (.follow p b) (changeSource p (.follow k) s)
  | detach {p : Port} : (s.egress p).lock = false → Effect s (.detach p) (changeSource p .none s)
  | freeze {p : Port} : (s.egress p).lock = false →
      Effect s (.freeze p) (s.setEgress p { s.egress p with frozen := true })
  | thaw {p : Port} : (s.egress p).lock = false →
      Effect s (.thaw p) (s.setEgress p { s.egress p with frozen := false })
  | setFallback {p : Port} {a b : Byte} {fill : Vector Byte 4} {action : StallAction} {n : EntryNo} :
      (s.egress p).lock = false →
      Effect s (.setFallback p a b fill) (s.setEgress p
        { s.egress p with stallAction := action, fallbackEntry := n, fillWord := fill })
  | lockEgress {p : Port} : (s.egress p).lock = false →
      Effect s (.lockEgress p) (s.setEgress p { s.egress p with lock := true })
  | pinPage {p : Port} {b : Byte} {g : PageNo} : s.pin p = none → (s.page g).state = .ready →
      Effect s (.pinPage p b) ((takeHold (.pin p) g s).setPin p (some g))
  | pinNewest {p : Port} {b : Byte} {g : PageNo} : s.pin p = none → (s.page g).state = .ready →
      Effect s (.pinNewest p b) ((takeHold (.pin p) g s).setPin p (some g))
  | unpin (p : Port) : Effect s (.unpin p) (dropPin p s)
  | writePattern {p : Port} {b k bs bc : Byte} {w : Word16} {col : Vector Byte 16} {n : EntryNo}
      {content : PatternContent} : b.toNat = n.val → argPattern k bs bc w col = some content →
      (s.pattern n).lock = false →
      Effect s (.writePattern p b k bs bc w col) (s.setPattern n { s.pattern n with valid := true, content := content })
  | lockPattern {p : Port} {b : Byte} {n : EntryNo} : b.toNat = n.val → (s.pattern n).valid = true →
      Effect s (.lockPattern p b) (s.setPattern n { s.pattern n with lock := true })
  | readNotices (p : Port) : Effect s (.readNotices p) (s.setNotice p (s.notice p).cleared)
  | setMask (p : Port) (mask : Word16) :
      Effect s (.setMask p mask) (s.setNotice p (NoticeUnit.settle { s.notice p with mask := mask.setWidth 11 }))
  | setWatch (p : Port) (b : Byte) (compare : Word32) (st : StreamNo) :
      Effect s (.setWatch p b compare) (s.setNotice p { s.notice p with watch := some ⟨st, compare⟩ })
  | clearWatch (p : Port) : Effect s (.clearWatch p) (s.setNotice p { s.notice p with watch := none })
  | frameStart {p : Port} {tg : Tag} {kind : Byte} {number : Word16} : frameStartInRange kind = true →
      Effect s (.frameStart p tg kind number) (takeFrameStart p tg kind number s)
  | line {p : Port} {tg : Tag} {number : Word16} {payload : List Byte} {check : Word16} :
      lineInRange number payload = true →
      Effect s (.line p tg number payload check) (takeLine p tg number.toNat payload (payloadGood payload check) s)
  | sideband {p : Port} {tg : Tag} {payload : List Byte} {check : Word16} : sidebandInRange payload = true →
      Effect s (.sideband p tg payload check) (takeSideband p tg payload (payloadGood payload check) s)
  | frameEnd {p : Port} {tg : Tag} {status : Byte} {claimed : Word16} : frameEndInRange status claimed = true →
      Effect s (.frameEnd p tg status claimed) (takeFrameEnd p tg (decide (status = 0#8)) claimed.toNat s)
  | formatError {c : Instr} {p : Port} : failsHeaderCheck c p → Effect s c (formatError p s)
  | laneDown (p : Port) : Effect s (.laneDown p) (laneLost p s)
  | laneUp (p : Port) : Effect s (.laneUp p) (s.setCapture p { s.capture p with laneUp := true })
  | stallTimerExpiry {st : StreamNo} : (s.stream st).timer = .running 0 →
      Effect s (.stallTimerExpiry st) (expire st s)
  | flip {p : Port} : (s.egress p).run = .running → (s.egress p).FrameOver →
      Effect s (.flip p) (flipDecision p s)
  | noLine {p : Port} : nextFrameLine (s.egress p) = none →
      Effect s (.egressLine p) (s.setEgress p { s.egress p with lane := [] })
  | egressLine {p : Port} {n : Nat} {packets : List LanePacket} : nextFrameLine (s.egress p) = some n →
      frameLinePackets s (s.egress p) n = .ok packets →
      Effect s (.egressLine p) (s.setEgress p
        { s.egress p with linePosition := some n, lineSent := true, lane := packets })
  | powerOnReset : Effect s .powerOnReset s.powerOn
  | partReset : Effect s .partReset s.partReset
  | resetEnd : Effect s .resetEnd { s with inReset := none }
  | cfgholdChange (b : Bool) : Effect s (.cfgholdChange b) { s with cfgHold := b }
  | timeBaseTick (n : Nat) : Effect s (.timeBaseTick n) (advanceTime n s)

/-- What `exec` can leave: the state as it was, a refusal, an effect with its answer OK, an effect of an event that is
on no link, or no answer. -/
inductive Leaves (c : Instr) (s : State) : State → Prop
  | nothing : (s.inReset.isSome = true ∨ linkPort c = none) → Leaves c s s
  | refusal {p : Port} (st : Status) : linkPort c = some p → Leaves c s (s.setLink p (some (Answer.refusal st)))
  | answer {p : Port} {u : State} {a : Answer} : linkPort c = some p → Effect s c u → a.status = .ok →
      Leaves c s (u.setLink p (some a))
  | event {u : State} : linkPort c = none → Effect s c u → Leaves c s u
  | discarded {p : Port} : c = .transactionDiscarded p → Leaves c s (s.setLink p none)

/-! ### From the meanings to their effects -/

/-- Whatever the command leaves when it answers OK is so. -/
def CommandResult.Ensures (P : State → Prop) : CommandResult → Prop
  | .refuse _ => True
  | .done u a => P u ∧ a.status = .ok
  | .stop _ => True

@[simp] theorem CommandResult.ensures_refuse (P : State → Prop) (st : Status) :
    (CommandResult.refuse st).Ensures P := trivial

@[simp] theorem CommandResult.ensures_stop (P : State → Prop) (f : Fault) :
    (CommandResult.stop f).Ensures P := trivial

@[simp] theorem CommandResult.ensures_ok (P : State → Prop) (u : State) (r : List Byte) :
    (CommandResult.ok u r).Ensures P ↔ P u := by simp [CommandResult.ok, CommandResult.Ensures, Answer.ok]

@[simp] theorem CommandResult.ensures_line (P : State → Prop) (u : State) (before data : List Byte) :
    (CommandResult.done u (Answer.line before data)).Ensures P ↔ P u := by
  simp [CommandResult.Ensures, Answer.line]

theorem ensures_unlessLocked {P : State → Prop} {p : Port} {s : State} {r : CommandResult}
    (h : (s.egress p).lock = false → r.Ensures P) : (unlessLocked p s r).Ensures P := by
  unfold unlessLocked
  split
  · trivial
  · next unlocked => exact h (Bool.eq_false_iff.2 unlocked)

theorem ensures_egressOk {P : State → Prop} {p : Port} {f : Egress → Egress} {s : State}
    (h : P (s.setEgress p (f (s.egress p)))) : (egressOk p f s).Ensures P :=
  (CommandResult.ensures_ok ..).2 h

theorem Leaves.of_onLink {c : Instr} {p : Port} {s t : State} {r : CommandResult} (link : linkPort c = some p)
    (ensures : r.Ensures (Effect s c)) (h : onLink p s r = .next t) : Leaves c s t := by
  obtain ⟨inReset, rfl⟩ | ⟨-, ⟨st, rfl, rfl⟩ | ⟨u, a, rfl, rfl⟩⟩ := onLink_cases h
  · exact .nothing (.inl inReset)
  · exact .refusal st link
  · exact .answer link ensures.1 ensures.2

theorem Leaves.of_outOfReset {c : Instr} {s t u : State} (link : linkPort c = none)
    (effect : s.inReset = none → Leaves c s u) (h : outOfReset s u = .next t) : Leaves c s t := by
  obtain ⟨-, rfl⟩ | ⟨out, rfl⟩ := outOfReset_cases h
  · exact .nothing (.inr link)
  · exact effect out

theorem Leaves.of_onLane {c : Instr} {p : Port} {s t u : State} (link : linkPort c = none)
    (effect : Effect s c u) (h : onLane p s u = .next t) : Leaves c s t := by
  obtain rfl | ⟨-, -, rfl⟩ := onLane_cases h
  · exact .nothing (.inr link)
  · exact .event link effect

/-- A packet in range takes its effect, one out of range that of R51. -/
theorem Effect.of_range {c : Instr} {p : Port} {s u : State} {inRange : Bool} (taken : inRange = true → Effect s c u)
    (fails : inRange = false → failsHeaderCheck c p) :
    Effect s c (if inRange = true then u else Machine.formatError p s) := by
  split
  · next yes => exact taken yes
  · next no => exact .formatError (fails (Bool.eq_false_iff.2 no))

theorem ensures_openStream {P : State → Prop} {p : Port} {st : StreamNo} {pr : Pair} {mode : Mode}
    {quota lines timeout : Nat} {s : State}
    (h : s.cfgHold = false → (s.stream st).state = .closed → (∀ n, (s.stream n).binding ≠ some pr) →
      committedSum s + quota ≤ Config.poolPages →
      P (s.setStream st (Stream.opened p pr mode quota lines timeout))) :
    (openStream p st pr mode quota lines timeout s).Ensures P := by
  unfold openStream
  split_ifs with hold inUse bound full
  · trivial
  · trivial
  · trivial
  · trivial
  · refine (CommandResult.ensures_ok ..).2 (h (Bool.eq_false_iff.2 hold) (not_not.1 inUse) (fun n same => ?_)
      (Nat.not_lt.1 full))
    exact bound ((boundStream_isSome_iff s pr).2 ⟨n, same⟩)

theorem ensures_setStream {P : State → Prop} {st : StreamNo} {quota lines timeout : Nat} {s : State}
    (h : pageCount s st ≤ quota →
      (quota ≤ (s.stream st).quota ∨ committedSum s - (s.stream st).quota + quota ≤ Config.poolPages) →
      P (s.setStream st ((s.stream st).withValues quota lines timeout))) :
    (setStream st quota lines timeout s).Ensures P := by
  unfold setStream
  split_ifs with few full
  · trivial
  · trivial
  · exact (CommandResult.ensures_ok ..).2 (h (Nat.not_lt.1 few) (by omega))

theorem ensures_pinPage {P : State → Prop} {p : Port} {g : PageNo} {s : State}
    (h : (s.page g).state = .ready → P ((takeHold (.pin p) g s).setPin p (some g))) :
    (pinPage p g s).Ensures P := by
  unfold pinPage
  split
  · next ready => exact (CommandResult.ensures_ok ..).2 (h ready)
  · trivial

theorem ensures_readLine {P : State → Prop} {g : PageNo} {index offset count : Nat} {s : State} (h : P s) :
    (readLine g index offset count s).Ensures P := by
  unfold readLine
  dsimp only
  split_ifs
  · trivial
  · trivial
  · split
    · trivial
    · exact (CommandResult.ensures_line ..).2 h

/-- What `exec` leaves, for every event. -/
theorem exec_leaves {c : Instr} {s t : State} (h : exec c s = .next t) : Leaves c s t := by
  cases c with
  | readId p => exact .of_onLink rfl ((CommandResult.ensures_ok ..).2 (.read trivial)) h
  | readTime p => exact .of_onLink rfl ((CommandResult.ensures_ok ..).2 (.read trivial)) h
  | resetPort p => exact .of_onLink rfl ((CommandResult.ensures_ok ..).2 (.resetPort p)) h
  | openStream p b pp tg md q lines timeout =>
    refine .of_onLink rfl ?_ h
    split
    · next st _ _ _ hst _ _ _ =>
      split
      · next values =>
        exact ensures_openStream (.openStream (argBelow_eq_some_iff.1 hst) values)
      · trivial
    · trivial
  | setStream p b q lines timeout =>
    refine .of_onLink rfl ?_ h
    split
    · trivial
    · next st hst =>
      split
      · next values =>
        split
        · trivial
        · next passed => exact ensures_setStream (.setStream (argBelow_eq_some_iff.1 hst) values passed)
      · trivial
  | closeStream p b =>
    refine .of_onLink rfl ?_ h
    split
    · trivial
    · next st hst =>
      split
      · trivial
      · next passed => exact (CommandResult.ensures_ok ..).2 (.closeStream (argBelow_eq_some_iff.1 hst) passed)
  | lockStream p b =>
    refine .of_onLink rfl ?_ h
    split
    · trivial
    · next st hst =>
      split
      · trivial
      · next passed => exact (CommandResult.ensures_ok ..).2 (.lockStream (argBelow_eq_some_iff.1 hst) passed)
  | queryStream p b =>
    refine .of_onLink rfl ?_ h
    split
    · trivial
    · exact (CommandResult.ensures_ok ..).2 (.read trivial)
  | setTiming p lp a bp fp total n tg =>
    refine .of_onLink rfl ?_ h
    split
    · trivial
    · next timing named => exact ensures_unlessLocked fun unlocked => ensures_egressOk (.setTiming named unlocked)
  | startEgress p =>
    refine .of_onLink rfl (ensures_unlessLocked fun unlocked => ?_) h
    split
    · trivial
    · next notRunning =>
      refine (CommandResult.ensures_ok ..).2 (.startEgress unlocked ?_)
      cases run : (s.egress p).run with
      | stopped => rfl
      | running => exact absurd run notRunning
  | stopEgress p => exact .of_onLink rfl (ensures_unlessLocked fun unlocked =>
      ensures_egressOk (.stopEgress unlocked)) h
  | setTracking p b w =>
    refine .of_onLink rfl ?_ h
    split
    · trivial
    · exact ensures_unlessLocked fun unlocked => ensures_egressOk (.setTracking unlocked)
  | trackNow p =>
    refine .of_onLink rfl (ensures_unlessLocked fun unlocked => ?_) h
    split
    · next manual => exact ensures_egressOk (.trackNow unlocked manual)
    · trivial
  | subscribe p b =>
    refine .of_onLink rfl ?_ h
    split
    · trivial
    · next st hst =>
      refine ensures_unlessLocked fun unlocked => ?_
      split
      · next isOpen =>
        exact (CommandResult.ensures_ok ..).2 (.subscribe (argBelow_eq_some_iff.1 hst) unlocked isOpen)
      · trivial
  | follow p b =>
    refine .of_onLink rfl ?_ h
    split
    · trivial
    · next k hk =>
      split
      · trivial
      · next other =>
        refine ensures_unlessLocked fun unlocked => ?_
        split_ifs with chain followed
        · trivial
        · trivial
        · exact (CommandResult.ensures_ok ..).2 (.follow (argBelow_eq_some_iff.1 hk) other unlocked
            (Bool.eq_false_iff.2 chain) (Bool.eq_false_iff.2 followed))
  | detach p =>
    exact .of_onLink rfl (ensures_unlessLocked fun unlocked => (CommandResult.ensures_ok ..).2 (.detach unlocked)) h
  | freeze p => exact .of_onLink rfl (ensures_unlessLocked fun unlocked => ensures_egressOk (.freeze unlocked)) h
  | thaw p => exact .of_onLink rfl (ensures_unlessLocked fun unlocked => ensures_egressOk (.thaw unlocked)) h
  | setFallback p a b fill =>
    refine .of_onLink rfl ?_ h
    split
    · exact ensures_unlessLocked fun unlocked => ensures_egressOk (.setFallback unlocked)
    · trivial
  | lockEgress p =>
    refine .of_onLink rfl ?_ h
    split
    · trivial
    · exact ensures_unlessLocked fun unlocked => ensures_egressOk (.lockEgress unlocked)
  | queryEgress p b =>
    refine .of_onLink rfl ?_ h
    split
    · trivial
    · exact (CommandResult.ensures_ok ..).2 (.read trivial)
  | pinPage p b =>
    refine .of_onLink rfl ?_ h
    split
    · trivial
    · split
      · trivial
      · next empty => exact ensures_pinPage (.pinPage (Option.not_isSome_iff_eq_none.1 empty))
  | pinNewest p b =>
    refine .of_onLink rfl ?_ h
    split
    · trivial
    · split_ifs with filled closed
      · trivial
      · trivial
      · split
        · trivial
        · exact ensures_pinPage (.pinNewest (Option.not_isSome_iff_eq_none.1 filled))
  | unpin p => exact .of_onLink rfl ((CommandResult.ensures_ok ..).2 (.unpin p)) h
  | readLine p sel i o n =>
    refine .of_onLink rfl ?_ h
    split
    · trivial
    · split
      · split
        · trivial
        · exact ensures_readLine (.read trivial)
      · trivial
  | readMeta p sel =>
    refine .of_onLink rfl ?_ h
    split
    · trivial
    · split
      · trivial
      · exact (CommandResult.ensures_ok ..).2 (.read trivial)
  | queryPage p b =>
    refine .of_onLink rfl ?_ h
    split
    · trivial
    · exact (CommandResult.ensures_ok ..).2 (.read trivial)
  | queryIngress p b =>
    refine .of_onLink rfl ?_ h
    split
    · trivial
    · exact (CommandResult.ensures_ok ..).2 (.read trivial)
  | writePattern p b k bs bc w col =>
    refine .of_onLink rfl ?_ h
    split
    · next n content hn named =>
      split_ifs with hold lock
      · trivial
      · trivial
      · exact (CommandResult.ensures_ok ..).2 (.writePattern (argBelow_eq_some_iff.1 hn) named
          (Bool.eq_false_iff.2 lock))
    · trivial
  | lockPattern p b =>
    refine .of_onLink rfl ?_ h
    split
    · trivial
    · next n hn =>
      split_ifs with hold valid
      · trivial
      · exact (CommandResult.ensures_ok ..).2 (.lockPattern (argBelow_eq_some_iff.1 hn) valid)
      · trivial
  | readPattern p b =>
    refine .of_onLink rfl ?_ h
    split
    · trivial
    · exact (CommandResult.ensures_ok ..).2 (.read trivial)
  | readNotices p => exact .of_onLink rfl ((CommandResult.ensures_ok ..).2 (.readNotices p)) h
  | setMask p mask =>
    refine .of_onLink rfl ?_ h
    split
    · exact (CommandResult.ensures_ok ..).2 (.setMask p mask)
    · trivial
  | setWatch p b compare =>
    refine .of_onLink rfl ?_ h
    split
    · trivial
    · next st _ => exact (CommandResult.ensures_ok ..).2 (.setWatch p b compare st)
  | clearWatch p => exact .of_onLink rfl ((CommandResult.ensures_ok ..).2 (.clearWatch p)) h
  | badCommand p => exact .of_onLink rfl (CommandResult.ensures_refuse ..) h
  | transactionDiscarded p =>
    obtain ⟨inReset, rfl⟩ | ⟨-, rfl⟩ := outOfReset_cases h
    · exact .nothing (.inl inReset)
    · exact .discarded rfl
  | frameStart p tg kind number =>
    exact .of_onLane rfl (.of_range .frameStart fun bad => ⟨rfl, bad⟩) h
  | line p tg number payload check => exact .of_onLane rfl (.of_range .line fun bad => ⟨rfl, bad⟩) h
  | sideband p tg payload check => exact .of_onLane rfl (.of_range .sideband fun bad => ⟨rfl, bad⟩) h
  | frameEnd p tg status claimed => exact .of_onLane rfl (.of_range .frameEnd fun bad => ⟨rfl, bad⟩) h
  | formatError p => exact .of_onLane rfl (.formatError rfl) h
  | laneDown p => exact .of_onLane rfl (.laneDown p) h
  | laneUp p => exact .of_outOfReset rfl (fun _ => .event rfl (.laneUp p)) h
  | stallTimerExpiry st =>
    refine .of_outOfReset rfl (fun _ => ?_) h
    split
    · next ended => exact .event rfl (.stallTimerExpiry ended)
    · exact .nothing (.inr rfl)
  | flip p =>
    refine .of_outOfReset rfl (fun _ => ?_) h
    split
    · next ended => exact .event rfl (.flip ended.1 ((nextFrameLine_eq_none_iff _ ended.1).1 ended.2))
    · exact .nothing (.inr rfl)
  | egressLine p =>
    change execEgressLine p s = _ at h
    unfold execEgressLine at h
    dsimp only at h
    split at h
    · next none => exact .of_outOfReset rfl (fun _ => .event rfl (.noLine none)) h
    · next n found =>
      split at h
      · next packets sent => exact .of_outOfReset rfl (fun _ => .event rfl (.egressLine found sent)) h
      · split at h
        · cases h
          exact .nothing (.inr rfl)
        · cases h
  | powerOnReset => cases h; exact .event rfl .powerOnReset
  | partReset => cases h; exact .event rfl .partReset
  | resetEnd => cases h; exact .event rfl .resetEnd
  | cfgholdChange b => cases h; exact .event rfl (.cfgholdChange b)
  | timeBaseTick n => exact .of_outOfReset rfl (fun _ => .event rfl (.timeBaseTick n)) h

end Sys2Proof.Machine

/-! `Upkeep` of the meanings of Sys2Proof/Machine/Ingress.lean, Streams.lean, Egress.lean and Link.lean, and of every
event (`exec_upkeep`). -/

namespace Sys2Proof.Machine

/-! ### Admission (R75 to R78) -/

theorem binding_of_boundStream {s : State} {pr : Pair} {st : StreamNo} (h : boundStream s pr = some st) :
    (s.stream st).binding = some pr := by
  have found := List.find?_some h
  exact of_decide_eq_true found

/-- The page admission gives is the head of the free list, or the oldest unheld page of the ready list (R75). -/
theorem admittedPage_cases {st : StreamNo} {start : Page} {s t : State} {g : PageNo}
    (h : admittedPage st start s = some (g, t)) :
    (pageCount s st < (s.stream st).quota ∧ ∃ rest, s.freeList = g :: rest ∧
        t = { s with freeList := rest }.setPage g start) ∨
      ((s.stream st).quota ≤ pageCount s st ∧ ∃ e,
        (s.stream st).ready.find? (fun e => unheldReady s e.page) = some e ∧ e.page = g ∧
        t = (leaveReadyList st g s).setPage g start) := by
  unfold admittedPage at h
  dsimp only at h
  split at h
  · next below =>
    unfold allocate at h
    split at h
    · cases h
    · next head rest list =>
      cases h
      exact .inl ⟨below, rest, list, rfl⟩
  · next full =>
    split at h
    · cases h
    · unfold reclaim at h
      split at h
      · cases h
      · next e found =>
        cases h
        exact .inr ⟨Nat.not_lt.1 full, e, found, rfl, rfl⟩

theorem unheldReady_iff (s : State) (g : PageNo) :
    unheldReady s g = true ↔ (s.page g).state = .ready ∧ (s.page g).holdCount = 0 := by
  simp [unheldReady]

/-- The states of the notice unit's own commands (R24). -/
theorem isOpen_of_ownerTests {p : Port} {st : StreamNo} {lockTested : Bool} {s : State}
    (h : ownerTests p st lockTested s = none) :
    s.cfgHold = false ∧ (s.stream st).state.isOpen = true ∧ (s.stream st).owner = some p ∧
      (lockTested = true → (s.stream st).lock = false) := by
  unfold ownerTests at h
  split_ifs at h with hold closed other locked
  simp only [Bool.not_eq_true, Bool.not_eq_eq_eq_not, Bool.not_true, Bool.and_eq_true, not_and, not_not] at *
  exact ⟨hold, by simpa using closed, other, fun tested => by simpa using locked tested⟩

/-- An expiry stops the timer, and stalls a WAITING or LIVE stream with OWN_STALL (R41). -/
theorem expire_cases (st : StreamNo) (s : State) :
    (((s.stream st).state = .waiting ∨ (s.stream st).state = .live) ∧
        expire st s = raiseOwn .stall st (s.setStream st { s.stream st with state := .stalled, timer := .stopped })) ∨
      ((s.stream st).state ≠ .waiting ∧ (s.stream st).state ≠ .live ∧
        expire st s = s.setStream st { s.stream st with timer := .stopped }) := by
  cases state : (s.stream st).state <;> simp [expire, state]

namespace Upkeep

variable {x : Exempt} {s t u : State}

/-! ### Ingress (file 03) -/

theorem formatError {p : Port} (own : x.capture p) (s : State) : Upkeep x s (formatError p s) :=
  (setCapture own ..).trans (.raiseAt ..)
theorem payloadError {p : Port} (own : x.capture p) (s : State) : Upkeep x s (payloadError p s) :=
  (setCapture own ..).trans (.raiseAt ..)
theorem stray {p : Port} (own : x.capture p) (s : State) : Upkeep x s (stray p s) :=
  (setCapture own ..).trans (.raiseAt ..)
theorem rejectFrame {p : Port} (own : x.capture p) (t : Tag) (s : State) : Upkeep x s (rejectFrame p t s) :=
  (setContext own ..).trans ((setCapture own ..).trans (.raiseAt ..))

theorem becomeLive (st : StreamNo) (s : State) : Upkeep x s (becomeLive st s) := by
  have live : ∀ before : (s.stream st).state.isOpen = true,
      Upkeep x s (s.setStream st { s.stream st with state := .live }) := fun before =>
    setStream (.inr ⟨rfl, rfl, rfl, rfl, rfl, rfl, .inl ⟨.inr ⟨before, rfl⟩, rfl⟩, fun _ => id⟩) fun _ _ => rfl
  unfold Machine.becomeLive
  split
  · next waiting => exact live (by rw [waiting]; rfl)
  · next stalled => exact (live (by rw [stalled]; rfl)).trans (.raiseOwn ..)
  · exact .refl x s

theorem expire (st : StreamNo) (s : State) : Upkeep x s (expire st s) := by
  obtain ⟨awake, run⟩ | ⟨-, -, run⟩ := expire_cases st s
  · have before : (s.stream st).state.isOpen = true := by
      obtain waiting | live := awake
      · rw [waiting]
        rfl
      · rw [live]
        rfl
    have stalled : Upkeep x s (s.setStream st { s.stream st with state := .stalled, timer := .stopped }) :=
      setStream (.inr ⟨rfl, rfl, rfl, rfl, rfl, rfl, .inl ⟨.inr ⟨before, rfl⟩, rfl⟩, fun _ _ => rfl⟩) fun _ _ => rfl
    exact run ▸ stalled.trans (.raiseOwn ..)
  · rw [run]
    exact setStream (.inr ⟨rfl, rfl, rfl, rfl, rfl, rfl, .refl _, fun _ _ => rfl⟩) fun _ _ => rfl

theorem skipFrame {p : Port} (own : x.capture p) (t : Tag) (st : StreamNo) (s : State) :
    Upkeep x s (skipFrame p t st s) :=
  (setContext own ..).trans ((setStream_counters rfl).trans (.raiseOwn ..))

theorem fillPage {p : Port} (own : x.capture p) (t : Tag) (st : StreamNo) (g : PageNo) (s : State) :
    Upkeep x s (fillPage p t st g s) :=
  (setStream_counters rfl).trans (setContext own ..)

theorem admittedPage {st : StreamNo} {start : Page} {g : PageNo} (kept : start.WellKept)
    (filling : start.state = .filling) (h : admittedPage st start s = some (g, t)) : Upkeep x s t := by
  obtain ⟨-, rest, head, rfl⟩ | ⟨-, e, found, rfl, rfl⟩ := admittedPage_cases h
  · exact ⟨fun _ _ => .refl, fun _ _ => .refl _, fun _ _ _ => rfl,
      fun h => PagesWellKept.setPage (s := { s with freeList := rest }) h kept,
      fun h => h.take_head head (by simp [filling]), .of_poolOnly ((PoolOnly.setFreeList s rest).trans (.setPage ..))⟩
  · have unheld : unheldReady s e.page = true := by simpa using List.find?_some found
    have ready := ((unheldReady_iff ..).1 unheld).1
    refine (leaveReadyList st e.page s).trans (setPage (fun _ => kept) ?_)
    simp [filling, Machine.leaveReadyList, ready]

theorem admitFrame {p : Port} (own : x.capture p) {t : Tag} {st : StreamNo} {kind : Byte} {number : Word16}
    (inRange : kind.toNat ≤ 63) (s : State) : Upkeep x s (admitFrame p t st kind number s) := by
  unfold Machine.admitFrame
  split
  · next g u admitted =>
    exact (admittedPage (Page.wellKept_starting _ _ _ _ inRange) rfl admitted).trans (.fillPage own ..)
  · exact .skipFrame own ..

theorem frameStartFor {p : Port} (own : x.capture p) {t : Tag} {st : StreamNo} {kind : Byte} {number : Word16}
    (inRange : kind.toNat ≤ 63) (bound : (s.stream st).binding = some ⟨p, t⟩) :
    Upkeep x s (frameStartFor p t st kind number s) := by
  have live : Upkeep {} s (Machine.becomeLive st s) := becomeLive st s
  have stillBound : ((Machine.becomeLive st s).stream st).binding ≠ none := by
    rw [(live.streams st not_false).binding, bound]
    exact nofun
  refine (becomeLive st s).trans (.trans ?_ (admitFrame own inRange _))
  exact setStream (.inr ⟨rfl, rfl, rfl, rfl, rfl, rfl, .refl _,
    fun unbound => absurd unbound stillBound⟩) fun _ _ => rfl

theorem takeFrameStart {p : Port} (own : x.capture p) {t : Tag} {kind : Byte} {number : Word16}
    (inRange : kind.toNat ≤ 63) (s : State) : Upkeep x s (takeFrameStart p t kind number s) := by
  unfold Machine.takeFrameStart
  refine (abortContext p t s).trans ?_
  dsimp only
  split
  · exact .rejectFrame own ..
  · next st found => exact frameStartFor own inRange (binding_of_boundStream found)

theorem storeLine (bytesOwn : x.frameStore) {g : PageNo} {number : Nat} {payload : List Byte} {good : Bool}
    (filling : (s.page g).state = .filling) (low : 1 ≤ payload.length) (high : payload.length ≤ Config.maxLineBytes) :
    Upkeep x s (storeLine g number payload good s) := by
  by_cases fits : lineFits (s.page g) payload.length = true
  · rw [storeLine_of_fits _ _ fits]
    have bytes : Upkeep x s { s with
        frameStore := s.frameStore.writeAll (g.val * 8388608 + (s.page g).bytesUsed) payload } :=
      .of_same ⟨rfl, fun _ => rfl, fun _ => rfl, fun _ => rfl, fun kept => absurd bytesOwn kept, fun _ _ => rfl,
        fun _ _ => rfl, fun _ _ => rfl, fun _ _ => rfl, fun _ _ => rfl⟩ rfl rfl rfl rfl
    refine bytes.trans (setPage ?_ ?_)
    · exact fun kept => (kept g).withLine filling _ _ fits low high
    · simp [Page.withLine]
  · rw [storeLine_of_not_fits _ _ fits]
    exact setPage (fun kept => (kept g).truncated filling _) .rfl

theorem captureStore {p : Port} (own : x.capture p) {t : Tag} {g : PageNo} {good : Bool} {stored : State}
    (h : (s.page g).state = .filling → Upkeep x s stored) : Upkeep x s (captureStore p t g good stored s) := by
  unfold Machine.captureStore
  split
  · next owns =>
    have filling : (s.page g).state = .filling := by
      simp only [ownsPage, Bool.and_eq_true, decide_eq_true_eq] at owns
      exact owns.1
    split
    · exact h filling
    · exact (h filling).trans (.payloadError own ..)
  · exact .refl x s

theorem takeLine {p : Port} (own : x.capture p) (bytesOwn : x.frameStore) {t : Tag} {number : Nat}
    {payload : List Byte} {good : Bool}
    (low : 1 ≤ payload.length) (high : payload.length ≤ Config.maxLineBytes) (s : State) :
    Upkeep x s (takeLine p t number payload good s) := by
  unfold Machine.takeLine
  split
  · exact .stray own ..
  · exact .refl x s
  · exact captureStore own fun filling => storeLine bytesOwn filling low high

theorem takeSideband {p : Port} (own : x.capture p) {t : Tag} {payload : List Byte} {good : Bool}
    (low : 1 ≤ payload.length) (s : State) :
    Upkeep x s (takeSideband p t payload good s) := by
  unfold Machine.takeSideband
  split
  · exact .stray own ..
  · exact .refl x s
  · next g _ =>
    refine captureStore own fun filling => setPage (fun kept => (kept g).withMetadata filling good low) ?_
    simp [Page.withMetadata]

theorem offerWatches (st : StreamNo) (prior : Option Word32) (s : State) : Upkeep x s (offerWatches st prior s) := by
  refine foldl (fun s j => ?_) allPorts s
  split
  · exact .raiseAt ..
  · exact .refl x s

theorem publishFrame (g : PageNo) (claimed : Nat) (s : State) : Upkeep x s (publishFrame g claimed s) := by
  unfold Machine.publishFrame
  split
  · next filling =>
    split
    · refine .trans (setPage (fun kept => (kept g).published filling _ _ _) ?_) <|
        (setStream_counters rfl).trans <| (offerWatches ..).trans (.evaluateRelease ..)
      simp [Page.published, filling]
    · exact .refl x s
  · exact .refl x s

theorem takeFrameEnd {p : Port} (own : x.capture p) (t : Tag) (good : Bool) (claimed : Nat) (s : State) :
    Upkeep x s (takeFrameEnd p t good claimed s) := by
  unfold Machine.takeFrameEnd
  split
  · exact .stray own ..
  · exact setContext own ..
  · refine .trans ?_ (setContext own ..)
    split
    · exact .publishFrame ..
    · exact .abortFrame ..

theorem laneLost {p : Port} (own : x.capture p) (s : State) : Upkeep x s (laneLost p s) := by
  rw [laneLost_eq]
  exact (abortContexts ..).trans ((setCapture own ..).trans (.raiseAt ..))

/-! ### Port reset (R170) -/

theorem resetCapture {p : Port} (own : x.capture p) (s : State) : Upkeep x s (resetCapture p s) :=
  (abortContexts p allTags s).trans (setCapture own ..)

theorem resetEgress {p : Port} (own : x.subscriber p) (ownEgress : x.egress p) (s : State) :
    Upkeep x s (resetEgress p s) := by
  unfold Machine.resetEgress
  split
  · exact .refl x s
  · dsimp only
    refine .trans (t := if (s.egress p).run = .running then Machine.raiseFollowersLost p s else s) ?_ <|
      (dropHeld ownEgress ..).trans ((leaveSubscription own _).trans (setEgress ownEgress ..))
    split
    · exact .raiseFollowersLost ..
    · exact .refl x s

theorem resetPort {p : Port} (ownNotice : x.notice p) (own : x.subscriber p) (ownEgress : x.egress p)
    (ownCapture : x.capture p) (ownPin : x.pin p) (s : State) : Upkeep x s (resetPort p s) :=
  (resetCapture ownCapture s).trans <| (resetEgress own ownEgress _).trans <|
    (dropPin ownPin ..).trans (setNotice (.inl ownNotice))

/-! ### Streams and sources (files 02 and 06) -/

theorem subscribe {p : Port} (own : x.subscriber p) (ownEgress : x.egress p) (st : StreamNo) (s : State) :
    Upkeep x s (subscribe p st s) := by
  refine (leaveSubscription own s).trans (.trans (setSubscribers fun q kept => ?_) <|
    (setEgress ownEgress ..).trans (.evaluateRelease ..))
  have ne : q ≠ p := fun e => kept (e ▸ own)
  simp [hasMember_addMember, ne]

theorem changeSource {p : Port} (own : x.subscriber p) (ownEgress : x.egress p) (v : Source) (s : State) :
    Upkeep x s (changeSource p v s) :=
  (leaveSubscription own s).trans (setEgress ownEgress ..)

theorem closeUnbind {st : StreamNo} (own : x.stream st) (allCaptures : ∀ p, x.capture p) (s : State) :
    Upkeep x s (closeUnbind st s) := by
  have unbound : Upkeep x s (s.modStream st fun r => { r with binding := none, timer := .stopped }) :=
    setStream (.inl own) fun _ _ => rfl
  unfold Machine.closeUnbind
  dsimp only
  split
  · exact unbound
  · split
    · exact unbound.trans (.abortFrame ..)
    · exact unbound.trans ((abortFrame ..).trans (setContext (allCaptures _) ..))

theorem closeSubscriptions {st : StreamNo} (all : ∀ p, x.subscriber p) (allEgresses : ∀ p, x.egress p) (s : State) :
    Upkeep x s (closeSubscriptions st s) := by
  refine .trans (foldl (fun s j => ?_) allPorts s) (setSubscribers fun p kept => absurd (all p) kept)
  split
  · exact (setEgress (allEgresses j) ..).trans (.raiseAt ..)
  · exact .refl x s

theorem closeDrain {st : StreamNo} (own : x.stream st) (s : State) : Upkeep x s (closeDrain st s) := by
  unfold Machine.closeDrain
  refine (freeAll ((s.stream st).ready.map ReadyEntry.page) s).trans ?_
  dsimp only
  split
  · exact (raiseOwn ..).trans (setStream (.inl own) fun _ _ => rfl)
  · exact setStream (.inl own) fun _ _ => rfl

theorem advanceTime (own : x.timeBase) (n : Nat) (s : State) : Upkeep x s (advanceTime n s) := by
  have stream : ∀ st, (Machine.advanceTime n s).stream st =
      { s.stream st with timer := (s.stream st).timer.advance n } := fun st => by
    simp [Machine.advanceTime, State.stream]
  refine ⟨fun _ _ => .refl, fun st _ => ?_, fun st _ _ => by rw [stream], id, id,
    ⟨rfl, fun _ => rfl, fun _ => rfl, fun kept => absurd own kept, fun _ => rfl, fun _ _ => rfl, fun _ _ => rfl,
      fun _ _ => rfl, fun _ _ => rfl, fun _ _ => rfl⟩⟩
  rw [stream]
  exact ⟨rfl, rfl, rfl, rfl, rfl, rfl, .refl _, fun _ stopped => by simp [stopped, StallTimer.advance]⟩

end Upkeep

/-! ### Every event -/

/-- CLOSE_STREAM ends the subscriptions of egresses and may end the frame of a context. -/
def closesStream : Instr → Prop
  | .closeStream _ _ => True
  | _ => False

/-- What commands write beyond raises, aborts, releases and the capture of frames, in notice units, streams, pin slots,
pattern entries and the records of the part as a whole; and the subscriptions a command enters or ends. -/
def writesOf : Instr → Exempt
  | .readNotices p => { notice := fun q => q = p }
  | .setMask p _ => { notice := fun q => q = p }
  | .setWatch p _ _ => { notice := fun q => q = p }
  | .clearWatch p => { notice := fun q => q = p }
  | .resetPort p => { notice := fun q => q = p, subscriber := fun q => q = p, pin := fun q => q = p }
  | .openStream _ b _ _ _ _ _ _ => { stream := fun st => b.toNat = st.val, subscriber := fun _ => True }
  | .setStream _ b _ _ _ => { stream := fun st => b.toNat = st.val }
  | .closeStream _ b => { stream := fun st => b.toNat = st.val, subscriber := fun _ => True }
  | .lockStream _ b => { stream := fun st => b.toNat = st.val }
  | .subscribe p _ => { subscriber := fun q => q = p }
  | .follow p _ => { subscriber := fun q => q = p }
  | .detach p => { subscriber := fun q => q = p }
  | .pinPage p _ => { pin := fun q => q = p }
  | .pinNewest p _ => { pin := fun q => q = p }
  | .unpin p => { pin := fun q => q = p }
  | .writePattern _ b _ _ _ _ _ => { pattern := fun e => b.toNat = e.val }
  | .lockPattern _ b => { pattern := fun e => b.toNat = e.val }
  | .line _ _ _ _ _ => { frameStore := True }
  | .resetEnd => { inReset := True }
  | .cfgholdChange _ => { cfgHold := True }
  | .timeBaseTick _ => { timeBase := True }
  | _ => {}

/-- The records an event may change as it likes: what it writes, the capture unit of its lane, its egress and its
link. -/
def exemptOf (c : Instr) : Exempt :=
  { writesOf c with
    capture := fun p => lanePort c = some p ∨ c = .resetPort p ∨ closesStream c
    egress := fun p => egressPort c = some p ∨ closesStream c
    link := fun p => linkPort c = some p }

theorem lanePort_of_failsHeaderCheck {c : Instr} {p : Port} (fails : failsHeaderCheck c p) :
    lanePort c = some p := by
  cases c
  case formatError => exact congrArg some fails
  case frameStart => exact congrArg some fails.1
  case line => exact congrArg some fails.1
  case sideband => exact congrArg some fails.1
  case frameEnd => exact congrArg some fails.1
  all_goals exact fails.elim

theorem exempt_egress {c : Instr} {p : Port} (own : egressPort c = some p) : (exemptOf c).egress p := .inl own
theorem exempt_egress_of_close {c : Instr} (closes : closesStream c) (p : Port) : (exemptOf c).egress p := .inr closes
theorem exempt_capture {c : Instr} {p : Port} (own : lanePort c = some p) : (exemptOf c).capture p := .inl own
theorem exempt_capture_of_close {c : Instr} (closes : closesStream c) (p : Port) : (exemptOf c).capture p :=
  .inr (.inr closes)
theorem closesStream_closeStream (p : Port) (b : Byte) : closesStream (.closeStream p b) := trivial
theorem exempt_frameStore (p : Port) (tg : Tag) (number : Word16) (payload : List Byte) (check : Word16) :
    (exemptOf (.line p tg number payload check)).frameStore := trivial
theorem exempt_capture_of_resetPort (p : Port) : (exemptOf (.resetPort p)).capture p := .inr (.inl rfl)

theorem Effect.upkeep {c : Instr} {s u : State} (h : Effect s c u) (notReset : ¬ isReset c) :
    Upkeep (exemptOf c) s u := by
  cases h with
  | read _ => exact .refl _ s
  | resetPort p => exact .resetPort rfl rfl (exempt_egress rfl) (exempt_capture_of_resetPort p) rfl s
  | openStream hst => exact .setStream (.inl hst) fun p kept => absurd trivial kept
  | setStream hst => exact .setStream (.inl hst) fun _ _ => rfl
  | closeStream hst =>
    exact (Upkeep.closeUnbind hst (exempt_capture_of_close (closesStream_closeStream _ _)) s).trans <|
      (Upkeep.closeSubscriptions (fun _ => trivial) (exempt_egress_of_close (closesStream_closeStream _ _)) _).trans
          (.closeDrain hst _)
  | lockStream hst => exact .setStream (.inl hst) fun _ _ => rfl
  | startEgress => exact (Upkeep.setEgress (exempt_egress rfl) ..).trans (.flipDecision (exempt_egress rfl) ..)
  | setTiming => exact .setEgress (exempt_egress rfl) ..
  | stopEgress => exact .setEgress (exempt_egress rfl) ..
  | setTracking => exact .setEgress (exempt_egress rfl) ..
  | trackNow => exact .setEgress (exempt_egress rfl) ..
  | subscribe => exact .subscribe rfl (exempt_egress rfl) ..
  | follow => exact .changeSource rfl (exempt_egress rfl) ..
  | detach => exact .changeSource rfl (exempt_egress rfl) ..
  | freeze => exact .setEgress (exempt_egress rfl) ..
  | thaw => exact .setEgress (exempt_egress rfl) ..
  | setFallback => exact .setEgress (exempt_egress rfl) ..
  | lockEgress => exact .setEgress (exempt_egress rfl) ..
  | pinPage => exact (Upkeep.takeHold ..).trans (.setPin rfl ..)
  | pinNewest => exact (Upkeep.takeHold ..).trans (.setPin rfl ..)
  | unpin p => exact .dropPin rfl s
  | writePattern hn => exact .of_same (.setPattern hn ..) rfl rfl rfl rfl
  | lockPattern hn => exact .of_same (.setPattern hn ..) rfl rfl rfl rfl
  | readNotices p => exact .setNotice (.inl rfl)
  | setMask p mask => exact .setNotice (.inl rfl)
  | setWatch p b compare st => exact .setNotice (.inl rfl)
  | clearWatch p => exact .setNotice (.inl rfl)
  | frameStart inRange => exact .takeFrameStart (exempt_capture rfl) (of_decide_eq_true inRange) s
  | line inRange =>
    obtain ⟨-, low, high⟩ := (lineInRange_iff ..).1 inRange
    exact .takeLine (exempt_capture rfl) (exempt_frameStore ..) low high s
  | sideband inRange => exact .takeSideband (exempt_capture rfl) ((sidebandInRange_iff _).1 inRange).1 s
  | frameEnd => exact .takeFrameEnd (exempt_capture rfl) ..
  | formatError fails => exact .formatError (exempt_capture (lanePort_of_failsHeaderCheck fails)) s
  | laneDown p => exact .laneLost (exempt_capture rfl) s
  | laneUp p => exact .setCapture (exempt_capture rfl) ..
  | stallTimerExpiry => exact .expire ..
  | flip => exact .flipDecision (exempt_egress rfl) ..
  | noLine => exact .setEgress (exempt_egress rfl) ..
  | egressLine => exact .setEgress (exempt_egress rfl) ..
  | powerOnReset => exact absurd (.inl rfl) notReset
  | partReset => exact absurd (.inr rfl) notReset
  | resetEnd =>
    exact .of_same ⟨rfl, fun kept => absurd trivial kept, fun _ => rfl, fun _ => rfl, fun _ => rfl, fun _ _ => rfl,
      fun _ _ => rfl, fun _ _ => rfl, fun _ _ => rfl, fun _ _ => rfl⟩ rfl rfl rfl rfl
  | cfgholdChange b =>
    exact .of_same ⟨rfl, fun _ => rfl, fun kept => absurd trivial kept, fun _ => rfl, fun _ => rfl, fun _ _ => rfl,
      fun _ _ => rfl, fun _ _ => rfl, fun _ _ => rfl, fun _ _ => rfl⟩ rfl rfl rfl rfl
  | timeBaseTick n => exact .advanceTime trivial n s

/-- What every event but a reset of the part keeps. -/
theorem exec_upkeep {c : Instr} {s t : State} (h : exec c s = .next t) (notReset : ¬ isReset c) :
    Upkeep (exemptOf c) s t := by
  cases exec_leaves h with
  | nothing => exact .refl _ s
  | refusal _ link => exact .setLink link ..
  | answer link effect => exact (effect.upkeep notReset).trans (.setLink link ..)
  | event _ effect => exact effect.upkeep notReset
  | discarded discards => exact .setLink (by simp [exemptOf, discards, linkPort]) ..

end Sys2Proof.Machine

/-! What every step keeps of notices, pool and commitments (R27, R155, R156): each invariant is kept by every `Upkeep`
and holds after a reset of the part; the commands that `exemptOf` names are looked at one by one. -/

namespace Sys2Proof.Machine

/-! ### Steps and resets -/

/-- A relation of the state but for the queue is kept by every step when every event keeps it. -/
theorem step_keeps {I : State → Prop} (queue : ∀ (s : State) (rest : List Instr), I s → I { s with pending := rest })
    (event : ∀ (c : Instr) (s t : State), I s → exec c s = .next t → I t) {s t : State} (holds : I s)
    (h : step s = .next t) : I t := by
  cases pending : s.pending with
  | nil =>
    rw [step_empty pending] at h
    cases h
    exact holds
  | cons c rest =>
    rw [step_front pending] at h
    exact event c _ t (queue s rest holds) h

/-- Every record at its reset value (R5, R23, R49, R53, R69, R95, R113, R145, R155). -/
structure AtReset (t : State) : Prop where
  freeList : t.freeList = allPages
  page : ∀ g, t.page g = Page.cleared
  stream : ∀ st, t.stream st = Stream.initial
  capture : ∀ p, t.capture p = Capture.initial
  egress : ∀ p, t.egress p = Egress.initial
  pin : ∀ p, t.pin p = none
  notice : ∀ p, t.notice p = NoticeUnit.initial
  link : ∀ p, t.link p = none

theorem atReset_reset : AtReset State.reset :=
  ⟨rfl, State.reset_page, State.reset_stream, State.reset_capture, State.reset_egress, State.reset_pin,
    State.reset_notice, State.reset_link⟩

theorem atReset_powerOn (s : State) : AtReset s.powerOn :=
  ⟨rfl, State.reset_page, State.reset_stream, State.reset_capture, State.reset_egress, State.reset_pin,
    State.reset_notice, State.reset_link⟩

theorem atReset_partReset (s : State) : AtReset s.partReset :=
  ⟨rfl, State.reset_page, State.reset_stream, State.reset_capture, State.reset_egress, State.reset_pin,
    State.reset_notice, State.reset_link⟩

/-- A reset of the part leaves every record at its reset value (R171). -/
theorem exec_atReset {c : Instr} {s t : State} (h : exec c s = .next t) (reset : isReset c) : AtReset t := by
  obtain rfl | rfl := reset
  · cases h
    exact atReset_powerOn s
  · cases h
    exact atReset_partReset s

/-! ### Notices (R155, R156, R158) -/

theorem NoticeUnit.agrees_initial : LineAgrees NoticeUnit.initial ∧ OwnSetsAgree NoticeUnit.initial := by decide

theorem NoticeUnit.agrees_cleared (u : NoticeUnit) : LineAgrees u.cleared ∧ OwnSetsAgree u.cleared := by
  rw [NoticeUnit.cleared_eq]
  simp [LineAgrees, OwnSetsAgree, hasMember]

/-- The commands that write a notice unit of their port, and the port reset. -/
theorem command_of_exempt_notice {c : Instr} {p : Port} (own : (exemptOf c).notice p) :
    c = .readNotices p ∨ c = .resetPort p ∨ (∃ mask, c = .setMask p mask) ∨
      (∃ b compare, c = .setWatch p b compare) ∨ c = .clearWatch p := by
  cases c
  case readNotices q => obtain rfl : p = q := own; exact .inl rfl
  case resetPort q => obtain rfl : p = q := own; exact .inr (.inl rfl)
  case setMask q mask => obtain rfl : p = q := own; exact .inr (.inr (.inl ⟨mask, rfl⟩))
  case setWatch q b compare =>
    obtain rfl : p = q := own
    exact .inr (.inr (.inr (.inl ⟨b, compare, rfl⟩)))
  case clearWatch q => obtain rfl : p = q := own; exact .inr (.inr (.inr (.inr rfl)))
  all_goals exact own.elim

/-- What such a command leaves in the notice unit. -/
theorem Effect.notice_of_exempt {c : Instr} {s u : State} {p : Port} (h : Effect s c u)
    (own : (exemptOf c).notice p) :
    (c = .readNotices p ∧ u.notice p = (s.notice p).cleared) ∨
      (c = .resetPort p ∧ u.notice p = NoticeUnit.initial) ∨
      (∃ mask, u.notice p = NoticeUnit.settle { s.notice p with mask := mask }) ∨
      ∃ watch, u.notice p = { s.notice p with watch := watch } := by
  obtain rfl | rfl | ⟨mask, rfl⟩ | ⟨b, compare, rfl⟩ | rfl := command_of_exempt_notice own
  · cases h with
    | readNotices => exact .inl ⟨rfl, State.setNotice_notice_self ..⟩
    | read reading => exact reading.elim
    | formatError fails => exact fails.elim
  · cases h with
    | resetPort => exact .inr (.inl ⟨rfl, State.setNotice_notice_self ..⟩)
    | read reading => exact reading.elim
    | formatError fails => exact fails.elim
  · cases h with
    | setMask => exact .inr (.inr (.inl ⟨_, State.setNotice_notice_self ..⟩))
    | read reading => exact reading.elim
    | formatError fails => exact fails.elim
  · cases h with
    | setWatch => exact .inr (.inr (.inr ⟨_, State.setNotice_notice_self ..⟩))
    | read reading => exact reading.elim
    | formatError fails => exact fails.elim
  · cases h with
    | clearWatch => exact .inr (.inr (.inr ⟨_, State.setNotice_notice_self ..⟩))
    | read reading => exact reading.elim
    | formatError fails => exact fails.elim

/-- The notice unit of a port after any event but a reset of the part. -/
theorem exec_notice {c : Instr} {s t : State} (h : exec c s = .next t) (notReset : ¬ isReset c) (p : Port) :
    RaisedFrom (s.notice p) (t.notice p) ∨ (c = .readNotices p ∧ t.notice p = (s.notice p).cleared) ∨
      (c = .resetPort p ∧ t.notice p = NoticeUnit.initial) ∨
      (∃ mask, t.notice p = NoticeUnit.settle { s.notice p with mask := mask }) ∨
      ∃ watch, t.notice p = { s.notice p with watch := watch } := by
  by_cases own : (exemptOf c).notice p
  · cases exec_leaves h with
    | nothing => exact .inl .refl
    | refusal => exact .inl .refl
    | answer _ effect => exact .inr (effect.notice_of_exempt own)
    | event _ effect => exact .inr (effect.notice_of_exempt own)
    | discarded => exact .inl .refl
  · exact .inl ((exec_upkeep h notReset).notices p own)

theorem noticesAgree_exec (c : Instr) (s t : State) (agrees : NoticesAgree s) (h : exec c s = .next t) :
    NoticesAgree t := by
  intro p
  by_cases reset : isReset c
  · rw [(exec_atReset h reset).notice]
    exact NoticeUnit.agrees_initial
  obtain raised | ⟨-, cleared⟩ | ⟨-, initial⟩ | ⟨mask, masked⟩ | ⟨watch, watched⟩ := exec_notice h reset p
  · exact raised.agrees (agrees p)
  · exact cleared ▸ NoticeUnit.agrees_cleared _
  · exact initial ▸ NoticeUnit.agrees_initial
  · exact masked ▸ ⟨lineAgrees_settle _, (agrees p).2⟩
  · exact watched ▸ agrees p

/-- Settles O52: raises keep a notice unit in order (`RaisedFrom.agrees`); the commands of the notice unit and the
resets bring it into order. -/
theorem stepKeepsNoticesAgree : Obligations.StepKeepsNoticesAgree :=
  fun _ _ agrees h => step_keeps (I := NoticesAgree) (fun _ _ => id) noticesAgree_exec agrees h

/-- Settles O50: an event that is none of the three only raises notices at the port (`RaisedFrom.grows`), or writes its
mask or watch. -/
theorem noticesStayUntilRead : Obligations.NoticesStayUntilRead := by
  intro c s t p b st h notReset notRead notPortReset
  have grows : (s.notice p).Grows (t.notice p) := by
    obtain raised | ⟨read, -⟩ | ⟨reset, -⟩ | ⟨mask, masked⟩ | ⟨watch, watched⟩ := exec_notice h notReset p
    · exact raised.grows
    · exact absurd read notRead
    · exact absurd reset notPortReset
    · rw [masked]
      exact ⟨fun _ => id, fun _ => id, fun _ => id, fun _ => id, fun _ => id⟩
    · rw [watched]
      exact ⟨fun _ => id, fun _ => id, fun _ => id, fun _ => id, fun _ => id⟩
  exact ⟨grows.flags b, grows.stallSet st, grows.resumeSet st, grows.skipSet st, grows.drainedSet st⟩

/-! ### The page pool (R2, R4) and the frame store (R1) -/

theorem AtReset.pages {t : State} (h : AtReset t) : PagesWellKept t := fun g => by
  rw [h.page g]
  exact Page.wellKept_cleared

theorem AtReset.freeListExact {t : State} (h : AtReset t) : FreeListExact t := by
  rw [FreeListExact, h.freeList]
  refine ⟨by decide, fun g => ?_⟩
  have listed : g ∈ allPages := by
    revert g
    decide
  simp [h.page g, listed, Page.cleared]

/-- Every event keeps the page records and the free list in order. -/
theorem pool_exec {c : Instr} {s t : State} (h : exec c s = .next t) :
    (PagesWellKept s → PagesWellKept t) ∧ (FreeListExact s → FreeListExact t) := by
  by_cases reset : isReset c
  · exact ⟨fun _ => (exec_atReset h reset).pages, fun _ => (exec_atReset h reset).freeListExact⟩
  · exact ⟨(exec_upkeep h reset).pages, (exec_upkeep h reset).freeList⟩

end Sys2Proof.Machine

/-! Which events change which records, the frame store, and the commitments (R1, R27). -/

namespace Sys2Proof.Machine

/-! ### The frame store (R1, R9) -/

/-- A LINE writes its payload behind the bytes of the page its context is CAPTURING, or nothing. -/
theorem takeLine_frameStore (p : Port) (t : Tag) (number : Nat) (payload : List Byte) (good : Bool) (s : State) :
    (takeLine p t number payload good s).frameStore = s.frameStore ∨
      ∃ g, s.context p t = .capturing g ∧ (takeLine p t number payload good s).frameStore =
        s.frameStore.writeAll (g.val * 8388608 + (s.page g).bytesUsed) payload := by
  have stored : ∀ g, (storeLine g number payload good s).frameStore = s.frameStore ∨
      (storeLine g number payload good s).frameStore =
        s.frameStore.writeAll (g.val * 8388608 + (s.page g).bytesUsed) payload := fun g => by
    by_cases fits : lineFits (s.page g) payload.length = true
    · rw [storeLine_of_fits _ _ fits]
      exact .inr rfl
    · rw [storeLine_of_not_fits _ _ fits]
      exact .inl rfl
  cases context : s.context p t with
  | idle => simp [takeLine, context, stray, raiseAt]
  | discarding => simp [takeLine, context]
  | capturing g =>
    have taken : (takeLine p t number payload good s).frameStore = s.frameStore ∨
        (takeLine p t number payload good s).frameStore = (storeLine g number payload good s).frameStore := by
      simp only [takeLine, context, captureStore]
      split_ifs
      · exact .inr rfl
      · exact .inr (checkReported_frameStore p false _)
      · exact .inl rfl
    obtain kept | changed := taken
    · exact .inl kept
    · rw [changed]
      exact (stored g).imp_right fun written => ⟨g, rfl, written⟩

theorem line_of_exempt_frameStore {c : Instr} (own : (exemptOf c).frameStore) :
    ∃ p tg number payload check, c = .line p tg number payload check := by
  cases c
  case line p tg number payload check => exact ⟨p, tg, number, payload, check, rfl⟩
  all_goals exact own.elim

/-- The frame store after any event but POWER_ON_RESET. -/
theorem exec_frameStore {c : Instr} {s t : State} (h : exec c s = .next t) (notPowerOn : c ≠ .powerOnReset) :
    t.frameStore = s.frameStore ∨
      ∃ p tg number payload check g, c = .line p tg number payload check ∧ s.context p tg = .capturing g ∧
        t.frameStore = s.frameStore.writeAll (g.val * 8388608 + (s.page g).bytesUsed) payload := by
  by_cases reset : isReset c
  · obtain rfl := reset.resolve_left notPowerOn
    cases h
    exact .inl rfl
  by_cases own : (exemptOf c).frameStore
  · obtain ⟨p, tg, number, payload, check, rfl⟩ := line_of_exempt_frameStore own
    cases exec_leaves h with
    | nothing => exact .inl rfl
    | refusal _ link => cases link
    | answer link => cases link
    | discarded discards => cases discards
    | event _ effect =>
      cases effect with
      | read reading => exact reading.elim
      | formatError => exact .inl (by simp [formatError, raiseAt])
      | line =>
        obtain kept | ⟨g, capturing, written⟩ :=
          takeLine_frameStore p tg number.toNat payload (payloadGood payload check) s
        · exact .inl kept
        · exact .inr ⟨p, tg, number, payload, check, g, rfl, capturing, written⟩
  · exact .inl ((exec_upkeep h reset).within.frameStore own)

/-- Settles O14: only a LINE writes, behind the bytes of its page (`exec_frameStore`), and a canonical store reads the
written bytes there (`Memory.read_writeAll`). -/
theorem frameStoreWrittenOnlyByLines : Obligations.FrameStoreWrittenOnlyByLines := by
  intro c s t a wf h notPowerOn changed
  obtain kept | ⟨p, tg, number, payload, check, g, rfl, capturing, written⟩ := exec_frameStore h notPowerOn
  · exact absurd (by rw [kept]) changed
  · rw [written, Memory.read_writeAll _ _ wf] at changed ⊢
    have inside : g.val * 8388608 + (s.page g).bytesUsed ≤ a ∧
        a < g.val * 8388608 + (s.page g).bytesUsed + payload.length := by
      by_contra outside
      exact changed (if_neg outside)
    exact ⟨p, tg, number, payload, check, g, rfl, capturing, inside.1, inside.2, if_pos inside⟩

theorem frameStore_exec {c : Instr} {s t : State} (wf : Memory.wf s.frameStore) (h : exec c s = .next t) :
    Memory.wf t.frameStore := by
  by_cases powerOn : c = .powerOnReset
  · subst powerOn
    cases h
    exact Memory.wf_nil
  · obtain kept | ⟨_, _, _, payload, _, _, _, _, written⟩ := exec_frameStore h powerOn
    · exact kept ▸ wf
    · exact written ▸ Memory.wf_writeAll payload _ _ wf

/-- Settles O53: page records and free list by `Upkeep` of every event, the frame store because a LINE's bytes are
written in canonical form. -/
theorem stepKeepsThePoolWellKept : Obligations.StepKeepsThePoolWellKept := by
  intro s t pages freeList store h
  refine step_keeps (I := fun s => PagesWellKept s ∧ FreeListExact s ∧ Memory.wf s.frameStore) (fun _ _ => id) ?_
    ⟨pages, freeList, store⟩ h
  rintro c s t ⟨pages, freeList, store⟩ h
  exact ⟨(pool_exec h).1 pages, (pool_exec h).2 freeList, frameStore_exec store h⟩

/-! ### Records and their own events -/

theorem command_of_exempt_pattern {c : Instr} {e : EntryNo} (own : (exemptOf c).pattern e) :
    (∃ p b k bs bc w col, c = .writePattern p b k bs bc w col ∧ b.toNat = e.val) ∨
      ∃ p b, c = .lockPattern p b ∧ b.toNat = e.val := by
  cases c
  case writePattern p b k bs bc w col => exact .inl ⟨p, b, k, bs, bc, w, col, rfl, own⟩
  case lockPattern p b => exact .inr ⟨p, b, rfl, own⟩
  all_goals exact own.elim

theorem command_of_exempt_pin {c : Instr} {p : Port} (own : (exemptOf c).pin p) :
    (∃ b, c = .pinPage p b) ∨ (∃ b, c = .pinNewest p b) ∨ c = .unpin p ∨ c = .resetPort p := by
  cases c
  case pinPage q b => obtain rfl : p = q := own; exact .inl ⟨b, rfl⟩
  case pinNewest q b => obtain rfl : p = q := own; exact .inr (.inl ⟨b, rfl⟩)
  case unpin q => obtain rfl : p = q := own; exact .inr (.inr (.inl rfl))
  case resetPort q => obtain rfl : p = q := own; exact .inr (.inr (.inr rfl))
  all_goals exact own.elim

theorem command_of_closesStream {c : Instr} (closes : closesStream c) : ∃ q b, c = .closeStream q b := by
  cases c
  case closeStream q b => exact ⟨q, b, rfl⟩
  all_goals exact closes.elim

theorem command_of_exempt_inReset {c : Instr} (own : (exemptOf c).inReset) : c = .resetEnd := by
  cases c
  case resetEnd => rfl
  all_goals exact own.elim

theorem command_of_exempt_cfgHold {c : Instr} (own : (exemptOf c).cfgHold) : ∃ b, c = .cfgholdChange b := by
  cases c
  case cfgholdChange b => exact ⟨b, rfl⟩
  all_goals exact own.elim

theorem command_of_exempt_timeBase {c : Instr} (own : (exemptOf c).timeBase) : ∃ n, c = .timeBaseTick n := by
  cases c
  case timeBaseTick n => exact ⟨n, rfl⟩
  all_goals exact own.elim

/-- A record that is kept unless it is exempt changed only if it is. -/
theorem of_changed {α : Type} {a b : α} {P Q : Prop} (kept : ¬ P → a = b) (command : P → Q) (changed : a ≠ b) : Q :=
  command (by_contra fun notOwn => changed (kept notOwn))

/-- Settles O13: outside the resets each record is kept by `Upkeep` unless `exemptOf` names it for the event. -/
theorem recordsChangeOnlyAtTheirOwnEvents : Obligations.RecordsChangeOnlyAtTheirOwnEvents := by
  intro c s t h
  by_cases reset : isReset c
  · have kept : t.pending = s.pending ∧ t.cfgHold = s.cfgHold ∧
        (c ≠ .powerOnReset → ∀ e, t.pattern e = s.pattern e) := by
      obtain rfl | rfl := reset
      · cases h
        exact ⟨rfl, rfl, fun no => absurd rfl no⟩
      · cases h
        exact ⟨rfl, rfl, fun _ _ => rfl⟩
    exact ⟨kept.1, fun _ => .inl reset, fun changed => absurd kept.2.1 changed, fun _ => .inl reset,
      fun e changed => .inl (by_contra fun no => changed (kept.2.2 no e)), fun _ _ => .inl reset,
      fun _ _ => .inl reset, fun _ _ => .inl reset, fun _ _ => .inl reset⟩
  · have within := (exec_upkeep h reset).within
    refine ⟨within.pending, of_changed within.inReset fun own => .inr (command_of_exempt_inReset own),
      of_changed within.cfgHold command_of_exempt_cfgHold,
      of_changed within.timeBase fun own => .inr (command_of_exempt_timeBase own),
      fun e => of_changed (within.pattern e) fun own => .inr (command_of_exempt_pattern own),
      fun p => of_changed (within.pin p) fun own => .inr (command_of_exempt_pin own),
      fun p => of_changed (within.capture p) fun own => .inr ?_,
      fun p => of_changed (within.egress p) fun own => .inr ?_, fun p => of_changed (within.link p) .inr⟩
    · obtain lane | portReset | closes := own
      · exact .inl lane
      · exact .inr (.inl portReset)
      · exact .inr (.inr (command_of_closesStream closes))
    · exact own.imp_right command_of_closesStream

/-! ### Commitments (R27) -/

theorem committedSum_eq (s : State) : committedSum s = ∑ st : StreamNo, committedQuota (s.stream st) := by
  simp [committedSum, allStreams, Fin.sum_univ_eight, add_assoc]

/-- The committed sum with one stream's record replaced. -/
theorem committedSum_setStream (s : State) (st : StreamNo) (r : Stream) :
    committedSum (s.setStream st r) + committedQuota (s.stream st) = committedSum s + committedQuota r := by
  have split : ∀ f : StreamNo → Nat, ∑ n, f n = f st + ∑ n ∈ Finset.univ.erase st, f n := fun f =>
    (Finset.add_sum_erase _ f (Finset.mem_univ st)).symm
  have others : ∑ n ∈ Finset.univ.erase st, committedQuota ((s.setStream st r).stream n) =
      ∑ n ∈ Finset.univ.erase st, committedQuota (s.stream n) :=
    Finset.sum_congr rfl fun n other => by rw [State.setStream_stream_ne _ _ (Finset.ne_of_mem_erase other).symm]
  rw [committedSum_eq, committedSum_eq, split, split fun n => committedQuota (s.stream n), others,
    State.setStream_stream_self]
  omega

/-- Where no stream commits more, and quotas stay, the commitments fit. -/
theorem CommitmentsFit.of_le {s t : State} (h : CommitmentsFit s)
    (le : ∀ st, committedQuota (t.stream st) ≤ committedQuota (s.stream st))
    (quota : ∀ st, (t.stream st).quota = (s.stream st).quota) : CommitmentsFit t := by
  refine ⟨le_trans ?_ h.1, fun st => quota st ▸ h.2 st⟩
  rw [committedSum_eq, committedSum_eq]
  exact Finset.sum_le_sum fun st _ => le st

theorem CommitmentsFit.setStream {s : State} (h : CommitmentsFit s) {st : StreamNo} {r : Stream}
    (sum : committedSum s + committedQuota r ≤ Config.poolPages + committedQuota (s.stream st))
    (range : 1 ≤ r.quota ∧ r.quota ≤ 8) : CommitmentsFit (s.setStream st r) := by
  have replaced := committedSum_setStream s st r
  refine ⟨by omega, fun n => ?_⟩
  rw [State.setStream_stream]
  split
  · exact range
  · exact h.2 n

theorem committedQuota_of_open {r : Stream} (isOpen : r.state.isOpen = true) : committedQuota r = r.quota := by
  refine if_neg fun closed => ?_
  simp [closed, StreamState.isOpen] at isOpen

/-! ### The record that CLOSE_STREAM leaves (R33 to R35) -/

/-- The binding goes first; the rest of `closeUnbind` is an abort. -/
theorem closeUnbind_upkeep {x : Exempt} (all : ∀ p, x.capture p) (st : StreamNo) (s : State) :
    Upkeep x (s.setStream st { s.stream st with binding := none, timer := .stopped }) (closeUnbind st s) := by
  unfold closeUnbind
  dsimp only
  split
  · exact .refl x _
  · split
    · exact .abortFrame ..
    · exact (Upkeep.abortFrame ..).trans (.setContext (all _) ..)

/-- The stream that is closed keeps its quota, is unbound with its timer stopped, and is CLOSED without an owner or
DRAINING with it. -/
theorem closeStream_stream {st : StreamNo} {s : State} (isOpen : (s.stream st).state.isOpen = true) :
    let r := (closeDrain st (closeSubscriptions st (closeUnbind st s))).stream st
    r.quota = (s.stream st).quota ∧ r.binding = none ∧ r.timer = .stopped ∧
      ((r.state = .closed ∧ r.owner = none) ∨ (r.state = .draining ∧ r.owner = (s.stream st).owner)) := by
  let x : Exempt := { capture := fun _ => True, subscriber := fun _ => True, egress := fun _ => True }
  let u := closeSubscriptions st (closeUnbind st s)
  have upkeep : Upkeep x (s.setStream st { s.stream st with binding := none, timer := .stopped })
      (freeAll ((u.stream st).ready.map ReadyEntry.page) u) :=
    (closeUnbind_upkeep (fun _ => trivial) st s).trans <|
      (Upkeep.closeSubscriptions (fun _ => trivial) (fun _ => trivial) _).trans (.freeAll ..)
  have quiet := upkeep.streams st not_false
  rw [State.setStream_stream_self] at quiet
  have owner : ((freeAll ((u.stream st).ready.map ReadyEntry.page) u).stream st).owner = (s.stream st).owner := by
    obtain ⟨-, same⟩ | ⟨draining, -⟩ := quiet.state
    · exact same
    · change (s.stream st).state = _ at draining
      simp [draining, StreamState.isOpen] at isOpen
  change let r := (closeDrain st u).stream st; _
  unfold closeDrain
  dsimp only
  split
  · simp only [reachClosed, State.modStream_eq, State.setStream_stream_self, raiseOwn_stream]
    exact ⟨quiet.quota, quiet.binding, quiet.timer rfl rfl, .inl ⟨trivial, trivial⟩⟩
  · simp only [State.modStream_eq, State.setStream_stream_self]
    exact ⟨quiet.quota, quiet.binding, quiet.timer rfl rfl, .inr ⟨trivial, owner⟩⟩

theorem isSome_linkPort_of_exempt_stream {c : Instr} {st : StreamNo} (own : (exemptOf c).stream st) :
    (linkPort c).isSome = true := by
  cases c
  case openStream => rfl
  case setStream => rfl
  case closeStream => rfl
  case lockStream => rfl
  all_goals exact own.elim

theorem linkPort_of_failsHeaderCheck {c : Instr} {p : Port} (fails : failsHeaderCheck c p) : linkPort c = none := by
  cases c
  case formatError => rfl
  case frameStart => rfl
  case line => rfl
  case sideband => rfl
  case frameEnd => rfl
  all_goals exact fails.elim

theorem commitmentsFit_of_effect {c : Instr} {s u : State} (fits : CommitmentsFit s) (effect : Effect s c u)
    (notReset : ¬ isReset c) : CommitmentsFit u := by
  have upkeep := effect.upkeep notReset
  have quiet : (∀ st, ¬ (exemptOf c).stream st) → CommitmentsFit u := fun none =>
    fits.of_le (fun st => (upkeep.streams st (none st)).committedQuota_le) fun st =>
      (upkeep.streams st (none st)).quota
  cases effect with
  | @openStream p b pp tg md q lines timeout st pr mode hst values hold closed unbound room =>
    have range := (streamValuesInRange_iff ..).1 values
    refine fits.setStream ?_ ⟨range.1, range.2.1⟩
    simpa [committedQuota, closed, Stream.opened] using room
  | @setStream p b q lines timeout st hst values passed pages room =>
    have range := (streamValuesInRange_iff ..).1 values
    obtain ⟨-, isOpen, -, -⟩ := isOpen_of_ownerTests passed
    refine fits.setStream ?_ ⟨range.1, range.2.1⟩
    have committed : committedQuota ((s.stream st).withValues q.toNat lines.toNat timeout.toNat) = q.toNat :=
      committedQuota_of_open isOpen
    have within : (s.stream st).quota ≤ committedSum s := by
      rw [committedSum_eq, ← committedQuota_of_open isOpen]
      exact Finset.single_le_sum (f := fun n => committedQuota (s.stream n)) (fun _ _ => Nat.zero_le _)
        (Finset.mem_univ st)
    rw [committed, committedQuota_of_open isOpen]
    obtain smaller | fitsStill := room
    · have := fits.1
      omega
    · omega
  | @closeStream p b st hst passed =>
    obtain ⟨-, isOpen, -, -⟩ := isOpen_of_ownerTests passed
    obtain ⟨quota, -⟩ := closeStream_stream isOpen
    have others : ∀ n, n ≠ st → ¬ (exemptOf (.closeStream p b)).stream n := fun n ne own =>
      ne (Fin.ext (own.symm.trans hst))
    refine fits.of_le (fun n => ?_) fun n => ?_
    · by_cases same : n = st
      · subst same
        rw [committedQuota_of_open isOpen, ← quota, committedQuota]
        split <;> omega
      · exact (upkeep.streams n (others n same)).committedQuota_le
    · by_cases same : n = st
      · subst same
        exact quota
      · exact (upkeep.streams n (others n same)).quota
  | @lockStream p b st hst passed =>
    exact fits.setStream (Nat.add_le_add_right fits.1 _) (fits.2 st)
  | read reading => exact fits
  | formatError fails =>
    refine quiet fun st own => ?_
    simpa [linkPort_of_failsHeaderCheck fails] using isSome_linkPort_of_exempt_stream own
  | _ => exact quiet fun _ => id

theorem commitmentsFit_exec (c : Instr) (s t : State) (fits : CommitmentsFit s) (h : exec c s = .next t) :
    CommitmentsFit t := by
  by_cases reset : isReset c
  · have stream := (exec_atReset h reset).stream
    rw [CommitmentsFit, committedSum_eq]
    simp [stream, committedQuota, Stream.initial]
  cases exec_leaves h with
  | nothing => exact fits
  | refusal => exact fits
  | answer _ effect =>
    have kept := commitmentsFit_of_effect fits effect reset
    exact kept
  | event _ effect => exact commitmentsFit_of_effect fits effect reset
  | discarded => exact fits

/-- Settles O54: only OPEN_STREAM and SET_STREAM raise what a stream commits, and both test the sum first. -/
theorem stepKeepsCommitmentsWithinThePool : Obligations.StepKeepsCommitmentsWithinThePool :=
  fun _ _ fits h => step_keeps (I := CommitmentsFit) (fun _ _ => id) commitmentsFit_exec fits h

end Sys2Proof.Machine

/-! What a flip makes of its egress (R98, R102, R108 to R110, R115 to R122), said once: `Chosen` names the ways in which
the frame is chosen, `fullFlip_egress` the record a flip that is not stopping leaves, `stoppingFlip_egress` the record
a stopping flip leaves. -/

namespace Sys2Proof.Machine

/-! ### The record after each part of the flip -/

section records

variable {p : Port} (s : State)

@[simp] theorem dropHeld_egress_self : (dropHeld p s).egress p = { s.egress p with held := none } := by
  rw [dropHeld_egress, if_pos rfl]

theorem dropHeld_egress_ne {q : Port} (ne : q ≠ p) : (dropHeld p s).egress q = s.egress q := by
  rw [dropHeld_egress, if_neg ne.symm]

@[simp] theorem evaluateRelease_egress (st : StreamNo) (q : Port) : (evaluateRelease st s).egress q = s.egress q :=
  (PoolOnly.evaluateRelease ..).egress q

@[simp] theorem takeHold_egress (h : Holder) (g : PageNo) (q : Port) : (takeHold h g s).egress q = s.egress q :=
  (PoolOnly.takeHold ..).egress q

@[simp] theorem releaseHold_egress (h : Holder) (g : PageNo) (q : Port) : (releaseHold h g s).egress q = s.egress q :=
  (PoolOnly.releaseHold ..).egress q

@[simp] theorem raiseAt_egress (k : Port) (n : Notice) (q : Port) : (raiseAt k n s).egress q = s.egress q := rfl

@[simp] theorem raiseFollowersLost_egress (k q : Port) : (raiseFollowersLost k s).egress q = s.egress q :=
  (PoolOnly.raiseFollowersLost ..).egress q

@[simp] theorem repeatPage_egress_self :
    (repeatPage p s).egress p = { s.egress p with repeats := (s.egress p).repeats + 1 } := by
  simp [repeatPage]

@[simp] theorem showBlank_egress_self :
    (showBlank p s).egress p = { s.egress p with held := none, showing := .blank, patternCopy := none } := by
  simp [showBlank, Egress.show]

theorem showOwnPattern_egress_self :
    (showOwnPattern p s).egress p =
      if (s.pattern (s.egress p).fallbackEntry).valid then
        { s.egress p with
          held := none, showing := .pattern (s.egress p).fallbackEntry
          patternCopy := some (s.pattern (s.egress p).fallbackEntry).content }
      else { s.egress p with held := none, showing := .blank, patternCopy := none } := by
  simp only [showOwnPattern, State.modEgress_eq, State.setEgress_egress_self, dropHeld_egress_self]
  split <;> rfl

theorem releaseUnless_egress_self (g : PageNo) :
    (releaseUnless p g s).egress p =
      if (s.egress p).held = some g then s.egress p else { s.egress p with held := none } := by
  unfold releaseUnless
  split
  · rfl
  · exact dropHeld_egress_self s

@[simp] theorem takeCandidate_egress_self (st : StreamNo) (mode : Mode) (c : ReadyEntry) :
    (takeCandidate p st mode c s).egress p = (s.egress p).take mode c := by
  simp [takeCandidate]

@[simp] theorem clearCursor_egress_self :
    (clearCursor p s).egress p = { s.egress p with cursor := none } := by
  unfold clearCursor
  split <;> simp

theorem trackTotal_egress_self :
    (trackTotal p s).egress p = ((s.egress p).track (trackedInterval s (s.egress p))).1 := by
  unfold trackTotal
  dsimp only
  split <;> simp

theorem settleFallback_egress_self (before : Showing) :
    (settleFallback p before s).egress p =
      if (s.egress p).showing = .page then s.egress p
      else { s.egress p with fallbackFrames := (s.egress p).fallbackFrames + 1 } := by
  unfold settleFallback
  split
  · rfl
  · dsimp only
    split <;> simp

theorem beginFrame_egress_self :
    (beginFrame p s).egress p =
      { s.egress p with
        linePosition := some 0, lineSent := false, frameFill := (s.egress p).fillWord
        lane := frameOpening s (s.egress p) } := by
  simp [beginFrame]

end records

/-! ### The choice of the frame (R116 to R122) -/

/-- The frame of an egress `e` of port `p` in `s` is chosen, and leaves `e'`. -/
inductive Chosen (s : State) (p : Port) (e : Egress) : Egress → Prop
  | frozen : e.frozen = true → e.source ≠ .none → Chosen s p e { e with repeats := e.repeats + 1 }
  | repeated {st : StreamNo} : e.source = .stream st → e.held.isSome = true →
      Chosen s p e { e with repeats := e.repeats + 1 }
  | blank : Chosen s p e { e with held := none, showing := .blank, patternCopy := none }
  | ownPattern : (s.pattern e.fallbackEntry).valid = true →
      Chosen s p e { e with
        held := none, showing := .pattern e.fallbackEntry
        patternCopy := some (s.pattern e.fallbackEntry).content }
  | taken {st : StreamNo} (dropped : Word32) (q : Word32) (g : PageNo) : e.source = .stream st →
      Chosen s p e { e with
        dropped := dropped, cursor := some q, held := some g, showing := .page, patternCopy := none
        newFrames := e.newFrames + 1 }
  | leaderKept : e.held.isSome = true →
      Chosen s p e { e with repeats := e.repeats + 1, showing := .page, patternCopy := none }
  | leaderTaken (g : PageNo) :
      Chosen s p e { e with held := some g, showing := .page, patternCopy := none, newFrames := e.newFrames + 1 }
  | leaderPattern {k : Port} {n : EntryNo} : e.source = .follow k → (s.egress k).showing = .pattern n →
      Chosen s p e { e with held := none, showing := .pattern n, patternCopy := (s.egress k).patternCopy }

/-- What is chosen after the held page was given up could have been chosen before. -/
theorem Chosen.of_dropped {s u : State} {p : Port} {e e' : Egress} (thawed : e.frozen = false)
    (patterns : u.patterns = s.patterns) (others : ∀ q, q ≠ p → u.egress q = s.egress q)
    (notSelf : e.source ≠ .follow p) (h : Chosen u p { e with held := none } e') : Chosen s p e e' := by
  have pattern : ∀ n, u.pattern n = s.pattern n := fun n => by simp [State.pattern, patterns]
  cases h with
  | frozen isFrozen => simp [thawed] at isFrozen
  | repeated _ held => cases held
  | blank => exact .blank
  | ownPattern valid =>
    simp only [pattern] at valid ⊢
    exact .ownPattern valid
  | taken dropped q g source => exact .taken dropped q g source
  | leaderKept held => cases held
  | leaderTaken g => exact .leaderTaken g
  | @leaderPattern k n source showing =>
    have ne : k ≠ p := by
      rintro rfl
      exact notSelf source
    rw [others k ne] at showing ⊢
    exact .leaderPattern source showing

theorem chosen_showOwnPattern (p : Port) (s : State) : Chosen s p (s.egress p) ((showOwnPattern p s).egress p) := by
  rw [showOwnPattern_egress_self]
  split
  · next valid => exact .ownPattern valid
  · exact .blank

theorem chosen_withoutCandidate {p : Port} {st : StreamNo} {s : State} (source : (s.egress p).source = .stream st) :
    Chosen s p (s.egress p) ((withoutCandidate p st s).egress p) := by
  have repeated : ∀ g, (s.egress p).held = some g → Chosen s p (s.egress p) ((repeatPage p s).egress p) :=
    fun g held => by
      rw [repeatPage_egress_self]
      exact .repeated source (by rw [held]; rfl)
  have toBlank : Chosen s p (s.egress p) ((showBlank p s).egress p) := by
    rw [showBlank_egress_self]
    exact .blank
  unfold withoutCandidate
  split
  · unfold stallFrame
    split
    · next g _ held => exact repeated g held
    · exact toBlank
    · exact chosen_showOwnPattern p s
    · exact toBlank
  · unfold noCandidate
    split
    · next g held => exact repeated g held
    · exact chosen_showOwnPattern p s
    · exact toBlank
    · exact toBlank

/-- Releases before a choice: the rest of the state that a choice reads is kept. -/
theorem releaseUnless_upkeep_others (p : Port) (g : PageNo) (s : State) :
    (releaseUnless p g s).patterns = s.patterns ∧ ∀ q, q ≠ p → (releaseUnless p g s).egress q = s.egress q := by
  unfold releaseUnless
  split
  · exact ⟨rfl, fun _ _ => rfl⟩
  · refine ⟨?_, fun q ne => dropHeld_egress_ne s ne⟩
    unfold dropHeld
    split
    · rfl
    · exact (PoolOnly.releaseHold ..).patterns

theorem chosen_takeFromStream {p : Port} {st : StreamNo} (tries : Nat) {s : State}
    (source : (s.egress p).source = .stream st) (thawed : (s.egress p).frozen = false) :
    Chosen s p (s.egress p) ((takeFromStream p st tries s).egress p) := by
  refine takeFromStream_induction (p := p) (st := st)
    (P := fun s t => (s.egress p).source = .stream st → (s.egress p).frozen = false →
      Chosen s p (s.egress p) (t.egress p))
    (fun s source _ => chosen_withoutCandidate source) (fun s c _ _ source _ => ?_)
    (fun s c t _ _ later source thawed => ?_) tries s source thawed
  · rw [takeCandidate_egress_self, releaseUnless_egress_self]
    split
    · exact .taken _ _ _ source
    · exact .taken _ _ _ source
  · obtain ⟨patterns, others⟩ := releaseUnless_upkeep_others p c.page s
    rw [releaseUnless_egress_self] at later
    split at later
    · next kept =>
      have same : releaseUnless p c.page s = s := if_pos kept
      rw [same] at later
      exact later source thawed
    · exact (later source thawed).of_dropped thawed patterns others (by simp [source])

theorem chosen_followPage {p : Port} (g : PageNo) {s : State} :
    Chosen s p (s.egress p) ((followPage p g s).egress p) := by
  unfold followPage
  split
  · next held =>
    simp only [State.modEgress_eq, State.setEgress_egress_self, repeatPage_egress_self, Egress.show]
    exact .leaderKept (by rw [held]; rfl)
  · dsimp only
    split
    · simp only [State.modEgress_eq, State.setEgress_egress_self, takeHold_egress, dropHeld_egress_self, Egress.show]
      exact .leaderTaken g
    · rw [showBlank_egress_self, dropHeld_egress_self]
      exact .blank

theorem chosen_takeFromLeader {p k : Port} {s : State} (source : (s.egress p).source = .follow k) :
    Chosen s p (s.egress p) ((takeFromLeader p k s).egress p) := by
  have toBlank : Chosen s p (s.egress p) ((showBlank p s).egress p) := by
    rw [showBlank_egress_self]
    exact .blank
  unfold takeFromLeader
  dsimp only
  split
  · exact toBlank
  · exact chosen_followPage _
  · next n _ _ showing =>
    simp only [State.modEgress_eq, State.setEgress_egress_self, dropHeld_egress_self, Egress.show]
    exact .leaderPattern source showing
  · exact toBlank

/-- Steps 4 and 5 of the flip decision leave a chosen frame. -/
theorem chosen_chooseFrame (p : Port) (s : State) : Chosen s p (s.egress p) ((chooseFrame p s).egress p) := by
  have keeps : (s.egress p).frozen = true → (s.egress p).source ≠ .none →
      Chosen s p (s.egress p) ((repeatPage p s).egress p) := fun isFrozen source => by
    rw [repeatPage_egress_self]
    exact .frozen isFrozen source
  unfold chooseFrame
  dsimp only
  split
  · rw [showBlank_egress_self]
    exact .blank
  · next st source =>
    split
    · next isFrozen => exact keeps isFrozen (by simp [source])
    · next thawed => exact chosen_takeFromStream _ source (Bool.eq_false_iff.2 thawed)
  · next k source =>
    split
    · next isFrozen => exact keeps isFrozen (by simp [source])
    · exact chosen_takeFromLeader source

/-! ### The whole flip (R115) -/

/-- Step 6 for the record alone (R122). -/
def Egress.counted (e : Egress) : Egress :=
  if e.showing = .page then e else { e with fallbackFrames := e.fallbackFrames + 1 }

/-- The record with its frame begun and its flip counted (R99, R104, R122). -/
def Egress.begun (e : Egress) (lane : List LanePacket) : Egress :=
  { e with flips := e.flips + 1, linePosition := some 0, lineSent := false, frameFill := e.fillWord, lane := lane }

/-- The record a flip tracks its frame length with (R98, R109, R110). -/
def trackedEgress (s : State) (e : Egress) : Egress := (e.applyPending.track (trackedInterval s e.applyPending)).1

/-- The state in which the frame is chosen. -/
def tracked (p : Port) (s : State) : State := trackTotal p (s.modEgress p Egress.applyPending)

/-- The state in which the frame begins. -/
def settled (p : Port) (s : State) : State :=
  settleFallback p (s.egress p).showing (chooseFrame p (tracked p s))

theorem fullFlip_eq (p : Port) (s : State) :
    fullFlip p s = beginFrame p ((settled p s).modEgress p fun e => { e with flips := e.flips + 1 }) := rfl

theorem tracked_egress_self (p : Port) (s : State) : (tracked p s).egress p = trackedEgress s (s.egress p) := by
  rw [tracked, trackTotal_egress_self]
  simp only [State.modEgress_eq, State.setEgress_egress_self]
  rfl

theorem trackTotal_patterns (p : Port) (s : State) : (trackTotal p s).patterns = s.patterns := by
  unfold trackTotal
  dsimp only
  split <;> rfl

theorem trackTotal_egress_ne {p q : Port} (ne : q ≠ p) (s : State) : (trackTotal p s).egress q = s.egress q := by
  unfold trackTotal
  dsimp only
  split <;> simp [State.setEgress_egress_ne _ _ ne.symm]

theorem tracked_patterns (p : Port) (s : State) : (tracked p s).patterns = s.patterns := trackTotal_patterns ..

theorem tracked_egress_ne {p q : Port} (ne : q ≠ p) (s : State) : (tracked p s).egress q = s.egress q := by
  rw [tracked, trackTotal_egress_ne ne]
  exact State.setEgress_egress_ne _ _ ne.symm

/-- The record with its frame chosen, settled and counted. -/
theorem settled_egress_self (p : Port) (s : State) :
    ∃ e, Chosen (tracked p s) p (trackedEgress s (s.egress p)) e ∧ (settled p s).egress p = e.counted := by
  refine ⟨_, tracked_egress_self p s ▸ chosen_chooseFrame p (tracked p s), ?_⟩
  rw [settled, settleFallback_egress_self]
  rfl

/-- The record that a flip that is not stopping leaves; its lane opens the frame. -/
theorem fullFlip_egress_self (p : Port) (s : State) :
    ∃ e, Chosen (tracked p s) p (trackedEgress s (s.egress p)) e ∧
      (fullFlip p s).egress p = e.counted.begun (frameOpening (settled p s) e.counted) := by
  obtain ⟨e, chosen, record⟩ := settled_egress_self p s
  refine ⟨e, chosen, ?_⟩
  rw [fullFlip_eq, beginFrame_egress_self]
  simp only [State.modEgress_eq, State.setEgress_egress_self, record]
  rfl

/-- Beyond the egress's own record the begin of the frame changes nothing. -/
theorem fullFlip_eq_setEgress (p : Port) (s : State) :
    fullFlip p s = (settled p s).setEgress p ((fullFlip p s).egress p) := by
  rw [fullFlip_eq]
  simp [beginFrame]

@[simp] theorem fullFlip_page (p : Port) (s : State) (g : PageNo) : (fullFlip p s).page g = (settled p s).page g := by
  rw [fullFlip_eq_setEgress]
  rfl

@[simp] theorem fullFlip_notice (p q : Port) (s : State) : (fullFlip p s).notice q = (settled p s).notice q := by
  rw [fullFlip_eq_setEgress]
  rfl

/-- The record that a stopping flip leaves (R102). -/
theorem stoppingFlip_egress_self (p : Port) (s : State) :
    (stoppingFlip p s).egress p =
      (Egress.stopped { s.egress p with held := none, cursor := none }).applyPendingStopped := by
  simp [stoppingFlip]

/-! ### Egress settings -/

/-- The fields that only the port's own commands write. -/
structure Egress.SameSettings (e e' : Egress) : Prop where
  lock : e'.lock = e.lock
  tracking : e'.tracking = e.tracking
  window : e'.window = e.window
  frozen : e'.frozen = e.frozen
  stallAction : e'.stallAction = e.stallAction
  fallbackEntry : e'.fallbackEntry = e.fallbackEntry
  fillWord : e'.fillWord = e.fillWord
  source : e'.source = e.source

theorem Egress.SameSettings.refl (e : Egress) : e.SameSettings e := ⟨rfl, rfl, rfl, rfl, rfl, rfl, rfl, rfl⟩

theorem Egress.SameSettings.trans {a b c : Egress} (h : a.SameSettings b) (k : b.SameSettings c) : a.SameSettings c :=
  ⟨k.lock.trans h.lock, k.tracking.trans h.tracking, k.window.trans h.window, k.frozen.trans h.frozen,
    k.stallAction.trans h.stallAction, k.fallbackEntry.trans h.fallbackEntry, k.fillWord.trans h.fillWord,
    k.source.trans h.source⟩

theorem Egress.sameSettings_applyPending (e : Egress) : e.SameSettings e.applyPending := by
  unfold Egress.applyPending
  split <;> exact ⟨rfl, rfl, rfl, rfl, rfl, rfl, rfl, rfl⟩

theorem Egress.sameSettings_applyPendingStopped (e : Egress) : e.SameSettings e.applyPendingStopped := by
  unfold Egress.applyPendingStopped
  split <;> exact ⟨rfl, rfl, rfl, rfl, rfl, rfl, rfl, rfl⟩

theorem Egress.sameSettings_track (e : Egress) (interval : Option Word32) : e.SameSettings (e.track interval).1 := by
  unfold Egress.track
  split
  · exact ⟨rfl, rfl, rfl, rfl, rfl, rfl, rfl, rfl⟩
  · exact ⟨rfl, rfl, rfl, rfl, rfl, rfl, rfl, rfl⟩
  · split <;> exact ⟨rfl, rfl, rfl, rfl, rfl, rfl, rfl, rfl⟩

theorem sameSettings_trackedEgress (s : State) (e : Egress) : e.SameSettings (trackedEgress s e) :=
  e.sameSettings_applyPending.trans (Egress.sameSettings_track ..)

theorem Chosen.sameSettings {s : State} {p : Port} {e e' : Egress} (h : Chosen s p e e') : e.SameSettings e' := by
  cases h <;> exact ⟨rfl, rfl, rfl, rfl, rfl, rfl, rfl, rfl⟩

theorem Egress.sameSettings_counted (e : Egress) : e.SameSettings e.counted := by
  unfold Egress.counted
  split <;> exact ⟨rfl, rfl, rfl, rfl, rfl, rfl, rfl, rfl⟩

theorem Egress.sameSettings_begun (e : Egress) (lane : List LanePacket) : e.SameSettings (e.begun lane) :=
  ⟨rfl, rfl, rfl, rfl, rfl, rfl, rfl, rfl⟩

theorem sameSettings_fullFlip (p : Port) (s : State) : (s.egress p).SameSettings ((fullFlip p s).egress p) := by
  obtain ⟨e, chosen, record⟩ := fullFlip_egress_self p s
  rw [record]
  exact (sameSettings_trackedEgress ..).trans <| chosen.sameSettings.trans <|
    e.sameSettings_counted.trans (Egress.sameSettings_begun ..)

theorem sameSettings_flipDecision (p : Port) (s : State) :
    (s.egress p).SameSettings ((flipDecision p s).egress p) := by
  unfold flipDecision
  split
  · rw [stoppingFlip_egress_self]
    refine .trans ?_ (Egress.sameSettings_applyPendingStopped _)
    exact ⟨rfl, rfl, rfl, rfl, rfl, rfl, rfl, rfl⟩
  · exact sameSettings_fullFlip p s

end Sys2Proof.Machine

/-! Bindings, owners, subscriptions and leaders (R25, R26, R45, R113, R114, R124): what each event does to the sources
and cursors of egresses and to the subscribers of streams. -/

namespace Sys2Proof.Machine

/-! ### Leaving a subscription (R45, R91) -/

theorem leaveSubscription_of_stream {p : Port} {st : StreamNo} {s : State} (source : (s.egress p).source = .stream st) :
    leaveSubscription p s = evaluateRelease st
      (s.setStream st { s.stream st with subscribers := dropMember (s.stream st).subscribers p }) := by
  simp only [leaveSubscription, source]
  rfl

theorem leaveSubscription_of_ne {p : Port} {s : State} (source : ∀ st, (s.egress p).source ≠ .stream st) :
    leaveSubscription p s = s := by
  unfold leaveSubscription
  split
  · next st is => exact absurd is (source st)
  · rfl

@[simp] theorem leaveSubscription_egress (p q : Port) (s : State) : (leaveSubscription p s).egress q = s.egress q :=
  (PoolOnly.leaveSubscription ..).egress q

@[simp] theorem evaluateRelease_subscribers (st n : StreamNo) (s : State) :
    ((evaluateRelease st s).stream n).subscribers = (s.stream n).subscribers := by
  rw [(SettingsKept.evaluateRelease st s).stream n]

/-- A port that leaves its subscription is subscribed nowhere; the others stay. -/
theorem leaveSubscription_subscribers {p : Port} {s : State} (exact : SubscriptionsExact s) (n : StreamNo) (q : Port) :
    hasMember ((leaveSubscription p s).stream n).subscribers q =
      (hasMember (s.stream n).subscribers q && decide (q ≠ p)) := by
  by_cases subscribed : ∃ st, (s.egress p).source = .stream st
  · obtain ⟨st, source⟩ := subscribed
    rw [leaveSubscription_of_stream source, evaluateRelease_subscribers, State.setStream_stream]
    split
    · next same => rw [hasMember_dropMember, same]
    · next other =>
      by_cases own : q = p
      · subst own
        have notMember : hasMember (s.stream n).subscribers q = false := by
          refine Bool.eq_false_iff.2 fun member => other ?_
          have named := ((exact q).1 n).1.1 member
          rw [source] at named
          injection named
        simp [notMember]
      · simp [own]
  · have notStream : ∀ st, (s.egress p).source ≠ .stream st := fun st is => subscribed ⟨st, is⟩
    rw [leaveSubscription_of_ne notStream]
    by_cases own : q = p
    · subst own
      have notMember : hasMember (s.stream n).subscribers q = false :=
        Bool.eq_false_iff.2 fun member => notStream n (((exact q).1 n).1.1 member)
      simp [notMember]
    · simp [own]

/-! ### The end of subscriptions at CLOSE_STREAM (R34, R132) -/

/-- The egress of a subscriber after its subscription ended. -/
def Egress.unsubscribed (e : Egress) : Egress := { e with source := .none, cursor := none }

@[simp] theorem Egress.unsubscribed_unsubscribed (e : Egress) : e.unsubscribed.unsubscribed = e.unsubscribed := rfl

/-- The subscriptions of the ports of a set ended, in order. -/
def endSubscriptions (subscribers : BitVec 4) (l : List Port) (s : State) : State :=
  l.foldl (fun s j => if hasMember subscribers j then endSubscription j s else s) s

theorem closeSubscriptions_eq (st : StreamNo) (s : State) :
    closeSubscriptions st s = (endSubscriptions (s.stream st).subscribers allPorts s).modStream st
      fun r => { r with subscribers := 0#4 } := rfl

theorem endSubscriptions_cons (subscribers : BitVec 4) (j : Port) (rest : List Port) (s : State) :
    endSubscriptions subscribers (j :: rest) s =
      endSubscriptions subscribers rest (if hasMember subscribers j then endSubscription j s else s) := rfl

theorem endSubscriptions_egress (subscribers : BitVec 4) (l : List Port) (s : State) (q : Port) :
    (endSubscriptions subscribers l s).egress q =
      if q ∈ l ∧ hasMember subscribers q = true then (s.egress q).unsubscribed else s.egress q := by
  induction l generalizing s with
  | nil => simp [endSubscriptions]
  | cons j rest ih =>
    rw [endSubscriptions_cons, ih]
    by_cases own : j = q
    · subst own
      by_cases member : hasMember subscribers j = true
      · have first : (endSubscription j s).egress j = (s.egress j).unsubscribed := by
          simp [endSubscription, Egress.unsubscribed]
        simp [member, first]
      · simp [member]
    · have first : (if hasMember subscribers j then endSubscription j s else s).egress q = s.egress q := by
        split <;> simp [endSubscription, State.setEgress_egress_ne _ _ own]
      simp [first, Ne.symm own]

/-- The ends of subscriptions touch egresses and notices alone. -/
theorem endSubscriptions_eq (subscribers : BitVec 4) (l : List Port) (s : State) :
    endSubscriptions subscribers l s =
      { s with
        egresses := (endSubscriptions subscribers l s).egresses
        notices := (endSubscriptions subscribers l s).notices } := by
  induction l generalizing s with
  | nil => rfl
  | cons j rest ih =>
    rw [endSubscriptions_cons, ih]
    split <;> rfl

@[simp] theorem endSubscriptions_stream (subscribers : BitVec 4) (l : List Port) (s : State) (n : StreamNo) :
    (endSubscriptions subscribers l s).stream n = s.stream n := by
  rw [endSubscriptions_eq]
  rfl

theorem mem_allPorts (p : Port) : p ∈ allPorts := by revert p; decide

theorem closeSubscriptions_egress (st : StreamNo) (s : State) (q : Port) :
    (closeSubscriptions st s).egress q =
      if hasMember (s.stream st).subscribers q = true then (s.egress q).unsubscribed else s.egress q := by
  have ended := endSubscriptions_egress (s.stream st).subscribers allPorts s q
  simpa [closeSubscriptions_eq, mem_allPorts] using ended

/-- The streams and the egresses after the unbinding: only the stream that is closed loses its binding (R33). -/
theorem closeUnbind_subscribers (st n : StreamNo) (s : State) :
    ((closeUnbind st s).stream n).subscribers = (s.stream n).subscribers := by
  have upkeep := closeUnbind_upkeep (x := { capture := fun _ => True }) (fun _ => trivial) st s
  refine eq_of_hasMember fun p => (upkeep.subscribers n p not_false).trans ?_
  rw [State.setStream_stream]
  split
  · next same => rw [← same]
  · rfl

theorem closeUnbind_egress (st : StreamNo) (s : State) (q : Port) : (closeUnbind st s).egress q = s.egress q :=
  (closeUnbind_upkeep (x := { capture := fun _ => True }) (fun _ => trivial) st s).within.egress q not_false

theorem closeDrain_upkeep (st : StreamNo) (s : State) :
    Upkeep { stream := fun n => n = st } s (closeDrain st s) := .closeDrain rfl s

/-- What CLOSE_STREAM leaves of each egress: the subscribers lose source and cursor (R34, R132). -/
theorem closeStream_egress (st : StreamNo) (s : State) (q : Port) :
    (closeDrain st (closeSubscriptions st (closeUnbind st s))).egress q =
      if hasMember (s.stream st).subscribers q = true then (s.egress q).unsubscribed else s.egress q := by
  rw [(closeDrain_upkeep st _).within.egress q not_false, closeSubscriptions_egress, closeUnbind_subscribers,
    closeUnbind_egress]

/-- The subscribers of the closed stream are gone, those of the others stay (R34). -/
theorem closeStream_subscribers (st n : StreamNo) (s : State) (p : Port) :
    hasMember ((closeDrain st (closeSubscriptions st (closeUnbind st s))).stream n).subscribers p =
      (hasMember (s.stream n).subscribers p && decide (n ≠ st)) := by
  rw [(closeDrain_upkeep st _).subscribers n p not_false, closeSubscriptions_eq, State.modStream_eq,
    State.setStream_stream]
  split
  · next same => simp [same]
  · next other => simp [closeUnbind_subscribers, Ne.symm other]

/-! ### Sources and cursors -/

/-- The source stays, and a cursor appears only where a stream is the source. -/
def SourceKept (e e' : Egress) : Prop :=
  e'.source = e.source ∧ (e'.cursor.isSome = true → e.cursor.isSome = true ∨ ∃ st, e.source = .stream st)

theorem SourceKept.refl (e : Egress) : SourceKept e e := ⟨rfl, .inl⟩

theorem SourceKept.of_same {e e' : Egress} (source : e'.source = e.source) (cursor : e'.cursor = e.cursor) :
    SourceKept e e' := ⟨source, fun present => .inl (cursor ▸ present)⟩

theorem SourceKept.of_eq {e e' : Egress} (same : e' = e) : SourceKept e e' := same ▸ .refl e

theorem Egress.applyPending_cursor (e : Egress) : e.applyPending.cursor = e.cursor := by
  unfold Egress.applyPending
  split <;> rfl

theorem Egress.applyPendingStopped_cursor (e : Egress) : e.applyPendingStopped.cursor = e.cursor := by
  unfold Egress.applyPendingStopped
  split <;> rfl

theorem Egress.track_cursor (e : Egress) (interval : Option Word32) : (e.track interval).1.cursor = e.cursor := by
  unfold Egress.track
  split
  · rfl
  · rfl
  · split <;> rfl

theorem trackedEgress_cursor (s : State) (e : Egress) : (trackedEgress s e).cursor = e.cursor :=
  (Egress.track_cursor ..).trans e.applyPending_cursor

theorem Egress.counted_cursor (e : Egress) : e.counted.cursor = e.cursor := by
  unfold Egress.counted
  split <;> rfl

theorem sourceKept_fullFlip (p : Port) (s : State) : SourceKept (s.egress p) ((fullFlip p s).egress p) := by
  refine ⟨(sameSettings_fullFlip p s).source, fun present => ?_⟩
  obtain ⟨e, chosen, record⟩ := fullFlip_egress_self p s
  have cursor : ((fullFlip p s).egress p).cursor = e.cursor := by
    rw [record]
    exact e.counted_cursor
  rw [cursor] at present
  have before := trackedEgress_cursor s (s.egress p)
  have source := (sameSettings_trackedEgress s (s.egress p)).source
  cases chosen with
  | taken _ _ _ stream => exact .inr ⟨_, source ▸ stream⟩
  | _ => exact .inl (before ▸ present)

theorem sourceKept_flipDecision (p : Port) (s : State) : SourceKept (s.egress p) ((flipDecision p s).egress p) := by
  refine ⟨(sameSettings_flipDecision p s).source, ?_⟩
  unfold flipDecision
  split
  · rw [stoppingFlip_egress_self, Egress.applyPendingStopped_cursor]
    exact nofun
  · exact (sourceKept_fullFlip p s).2

/-- The record of an egress that START_EGRESS makes RUNNING, before its first flip (R100). -/
def Egress.starting (e : Egress) : Egress := { e with run := .running, stopPending := false, linePosition := none }

theorem startEgress_eq (p : Port) (s : State) :
    startEgress p s = flipDecision p (s.setEgress p (s.egress p).starting) := rfl

/-- The commands that change the source of an egress. -/
def changesSource : Instr → Prop
  | .subscribe _ _ => True
  | .follow _ _ => True
  | .detach _ => True
  | .resetPort _ => True
  | .closeStream _ _ => True
  | _ => False

theorem Egress.storeTiming_source (e : Egress) (t : TimingSet) :
    (e.storeTiming t).source = e.source ∧ (e.storeTiming t).cursor = e.cursor := by
  unfold Egress.storeTiming
  split
  · exact ⟨rfl, rfl⟩
  · exact ⟨rfl, rfl⟩

/-- An event on its own egress, but for these commands, keeps the source. -/
theorem Effect.sourceKept_self {c : Instr} {s u : State} {p : Port} (h : Effect s c u)
    (own : egressPort c = some p) (not : ¬ changesSource c) : SourceKept (s.egress p) (u.egress p) := by
  have flips : ∀ e : Egress, SourceKept (s.egress p) e → (∀ t : State, t = s.setEgress p e →
      SourceKept (s.egress p) ((flipDecision p t).egress p)) := by
    rintro e kept t rfl
    have later := sourceKept_flipDecision p (s.setEgress p e)
    rw [State.setEgress_egress_self] at later
    refine ⟨later.1.trans kept.1, fun present => ?_⟩
    obtain before | stream := later.2 present
    · exact kept.2 before
    · exact .inr (kept.1 ▸ stream)
  have stored : ∀ e : Egress, e.source = (s.egress p).source → e.cursor = (s.egress p).cursor →
      SourceKept (s.egress p) ((s.setEgress p e).egress p) := fun e source cursor => by
    rw [State.setEgress_egress_self]
    exact .of_same source cursor
  cases h with
  | read => exact .refl _
  | resetPort => exact absurd trivial not
  | subscribe => exact absurd trivial not
  | follow => exact absurd trivial not
  | detach => exact absurd trivial not
  | setTiming => cases own; exact stored _ (Egress.storeTiming_source ..).1 (Egress.storeTiming_source ..).2
  | startEgress => cases own; exact flips (s.egress p).starting (.of_same rfl rfl) _ rfl
  | stopEgress => cases own; exact stored _ rfl rfl
  | setTracking => cases own; exact stored _ rfl rfl
  | trackNow => cases own; exact stored _ rfl rfl
  | freeze => cases own; exact stored _ rfl rfl
  | thaw => cases own; exact stored _ rfl rfl
  | setFallback => cases own; exact stored _ rfl rfl
  | lockEgress => cases own; exact stored _ rfl rfl
  | flip => cases own; exact sourceKept_flipDecision p s
  | noLine => cases own; exact stored _ rfl rfl
  | egressLine => cases own; exact stored _ rfl rfl
  | formatError => exact .of_eq (by simp [Machine.formatError, raiseAt])
  | _ => cases own

/-- Every event but these commands and the resets keeps every source. -/
theorem Effect.sourceKept {c : Instr} {s u : State} (h : Effect s c u) (notReset : ¬ isReset c)
    (not : ¬ changesSource c) (p : Port) : SourceKept (s.egress p) (u.egress p) := by
  by_cases own : egressPort c = some p
  · exact h.sourceKept_self own not
  · refine .of_eq ((h.upkeep notReset).within.egress p fun exempt => exempt.elim own fun closes => not ?_)
    cases c
    case closeStream => trivial
    all_goals exact closes.elim

end Sys2Proof.Machine

/-! Every event keeps bindings, subscriptions and leaders in their relations (R25, R26, R45, R113, R114, R124). -/

namespace Sys2Proof.Machine

/-! ### Bindings (R25, R26, R40) -/

/-- What `BindingsAgree` says of one stream. -/
def StreamBound (r : Stream) : Prop :=
  (r.binding.isSome = true ↔ r.state.isOpen = true) ∧ (r.owner.isSome = true ↔ r.state ≠ .closed) ∧
    (r.binding = none → r.timer = .stopped)

theorem ne_closed_of_isOpen {r : Stream} (isOpen : r.state.isOpen = true) : r.state ≠ .closed := by
  intro closed
  simp [closed, StreamState.isOpen] at isOpen

theorem QuietFrom.streamBound {r r' : Stream} (h : QuietFrom r r') (bound : StreamBound r) : StreamBound r' := by
  obtain ⟨binding, owner, timer⟩ := bound
  refine ⟨by rw [h.binding, h.isOpen, binding], ?_, fun unbound => ?_⟩
  · obtain ⟨same | ⟨before, after⟩, kept⟩ | ⟨-, closed, none⟩ := h.state
    · rw [kept, same, owner]
    · rw [kept, owner]
      exact iff_of_true (ne_closed_of_isOpen before) (ne_closed_of_isOpen after)
    · simp [closed, none]
  · rw [h.binding] at unbound
    exact h.timer unbound (timer unbound)

theorem BindingsAgree.of_quiet {s t : State} (agree : BindingsAgree s)
    (quiet : ∀ st, QuietFrom (s.stream st) (t.stream st)) : BindingsAgree t := by
  refine ⟨fun st => (quiet st).streamBound (agree.1 st), fun a b bound same => ?_⟩
  rw [(quiet a).binding] at bound same
  rw [(quiet b).binding] at same
  exact agree.2 a b bound same

/-- One stream changed its record, the others are quiet; its binding is the old one, none, or new in the table. -/
theorem BindingsAgree.of_one {s t : State} {st : StreamNo} (agree : BindingsAgree s)
    (quiet : ∀ n, n ≠ st → QuietFrom (s.stream n) (t.stream n)) (own : StreamBound (t.stream st))
    (fresh : (t.stream st).binding = (s.stream st).binding ∨
      ∀ n, n ≠ st → (t.stream st).binding.isSome = true → (s.stream n).binding ≠ (t.stream st).binding) :
    BindingsAgree t := by
  have other : ∀ n, n ≠ st → (t.stream n).binding = (s.stream n).binding := fun n ne => (quiet n ne).binding
  refine ⟨fun n => ?_, fun a b bound same => ?_⟩
  · by_cases e : n = st
    · exact e ▸ own
    · exact (quiet n e).streamBound (agree.1 n)
  · by_cases ha : a = st <;> by_cases hb : b = st
    · rw [ha, hb]
    · subst ha
      rw [other b hb] at same
      obtain kept | new := fresh
      · exact agree.2 a b (kept ▸ bound) (kept ▸ same)
      · exact absurd same.symm (new b hb bound)
    · subst hb
      rw [other a ha] at same bound
      obtain kept | new := fresh
      · exact agree.2 a b bound (kept ▸ same)
      · exact absurd same (new a ha (same ▸ bound))
    · rw [other a ha] at same bound
      rw [other b hb] at same
      exact agree.2 a b bound same

/-! ### Subscriptions and leaders (R45, R113, R114, R124) -/

theorem SubscriptionsExact.of_kept {s t : State} (exact : SubscriptionsExact s)
    (isOpen : ∀ st, (s.stream st).state.isOpen = true → (t.stream st).state.isOpen = true)
    (subscribers : ∀ st p, hasMember (t.stream st).subscribers p = hasMember (s.stream st).subscribers p)
    (sources : ∀ p, SourceKept (s.egress p) (t.egress p)) : SubscriptionsExact t := by
  intro p
  obtain ⟨source, cursor⟩ := sources p
  refine ⟨fun st => ?_, fun present => ?_⟩
  · rw [subscribers, source]
    exact ⟨((exact p).1 st).1, fun is => isOpen st (((exact p).1 st).2 is)⟩
  · rw [source]
    exact (cursor present).elim (exact p).2 id

theorem NoFollowerChain.of_kept {s t : State} (noChain : NoFollowerChain s)
    (sources : ∀ p, SourceKept (s.egress p) (t.egress p)) : NoFollowerChain t := by
  intro p k follows
  rw [(sources p).1] at follows
  rw [(sources k).1]
  exact noChain p k follows

/-- The egress of port `p` took the source `v`, its cursor absent; the subscribers sets say so. -/
structure SourceSet (p : Port) (v : Source) (s t : State) : Prop where
  source : (t.egress p).source = v
  cursor : (t.egress p).cursor = none
  others : ∀ q, q ≠ p → t.egress q = s.egress q
  subscribers : ∀ n q, hasMember (t.stream n).subscribers q =
    if q = p then decide (v = .stream n) else hasMember (s.stream n).subscribers q

theorem SubscriptionsExact.of_sourceSet {s t : State} {p : Port} {v : Source} (exact : SubscriptionsExact s)
    (isOpen : ∀ st, (s.stream st).state.isOpen = true → (t.stream st).state.isOpen = true) (set : SourceSet p v s t)
    (openSource : ∀ st, v = .stream st → (t.stream st).state.isOpen = true) : SubscriptionsExact t := by
  intro q
  by_cases own : q = p
  · subst own
    refine ⟨fun st => ?_, by simp [set.cursor]⟩
    rw [set.subscribers, set.source, if_pos rfl, decide_eq_true_iff]
    exact ⟨Iff.rfl, openSource st⟩
  · refine ⟨fun st => ?_, ?_⟩
    · rw [set.subscribers, if_neg own, set.others q own]
      exact ⟨((exact q).1 st).1, fun is => isOpen st (((exact q).1 st).2 is)⟩
    · rw [set.others q own]
      exact (exact q).2

theorem NoFollowerChain.of_sourceSet {s t : State} {p : Port} {v : Source} (noChain : NoFollowerChain s)
    (set : SourceSet p v s t)
    (leader : ∀ k, v = .follow k → k ≠ p ∧ (s.egress k).source.isFollow = false ∧
      ∀ j, (s.egress j).source ≠ .follow p) : NoFollowerChain t := by
  intro q k follows
  by_cases own : q = p
  · subst own
    rw [set.source] at follows
    obtain ⟨ne, notFollow, -⟩ := leader k follows
    exact ⟨ne, by rwa [set.others k ne]⟩
  · rw [set.others q own] at follows
    obtain ⟨ne, notFollow⟩ := noChain q k follows
    refine ⟨ne, ?_⟩
    by_cases leads : k = p
    · subst leads
      rw [set.source]
      cases v with
      | none => rfl
      | stream st => rfl
      | follow j => exact absurd follows ((leader j rfl).2.2 q)
    · rwa [set.others k leads]

/-! ### The commands that change a source -/

theorem sourceSet_changeSource {p : Port} {v : Source} {s : State} (exact : SubscriptionsExact s)
    (notStream : ∀ st, v ≠ .stream st) : SourceSet p v s (changeSource p v s) := by
  refine ⟨by simp [changeSource], by simp [changeSource], fun q ne => ?_, fun n q => ?_⟩
  · simp [changeSource, State.setEgress_egress_ne _ _ ne.symm]
  · rw [changeSource, State.modEgress_eq, State.setEgress_stream, leaveSubscription_subscribers exact]
    by_cases own : q = p <;> simp [own, notStream n]

theorem sourceSet_subscribe {p : Port} {st : StreamNo} {s : State} (exact : SubscriptionsExact s) :
    SourceSet p (.stream st) s (subscribe p st s) := by
  refine ⟨by simp [subscribe], by simp [subscribe], fun q ne => ?_, fun n q => ?_⟩
  · simp [subscribe, State.setEgress_egress_ne _ _ ne.symm]
  · have left := leaveSubscription_subscribers (p := p) exact n q
    simp only [subscribe, evaluateRelease_subscribers, State.modEgress_eq, State.setEgress_stream,
      State.modStream_eq, State.setStream_stream]
    by_cases named : st = n
    · subst named
      by_cases own : q = p <;> simp [hasMember_addMember, own, left]
    · by_cases own : q = p
      · subst own
        simp [named, left]
      · simp [own, named, left]

theorem resetEgress_of_locked {p : Port} {s : State} (locked : (s.egress p).lock = true) : resetEgress p s = s :=
  if_pos locked

/-- The egresses and the streams before the port reset leaves the subscription. -/
def beforeReset (p : Port) (s : State) : State :=
  dropHeld p (if (s.egress p).run = .running then raiseFollowersLost p s else s)

theorem resetEgress_of_unlocked {p : Port} {s : State} (unlocked : (s.egress p).lock = false) :
    resetEgress p s = (leaveSubscription p (beforeReset p s)).setEgress p Egress.initial := by
  simp only [resetEgress, unlocked]
  rfl

theorem beforeReset_upkeep (p : Port) (s : State) :
    Upkeep { egress := fun q => q = p } s (beforeReset p s) := by
  unfold beforeReset
  refine .trans ?_ (.dropHeld rfl _)
  split
  · exact .raiseFollowersLost ..
  · exact .refl _ s

theorem beforeReset_egress_self (p : Port) (s : State) :
    (beforeReset p s).egress p = { s.egress p with held := none } := by
  unfold beforeReset
  rw [dropHeld_egress_self]
  split <;> simp

/-- The port reset leaves its egress, locked or not, in the relations (R131). -/
theorem sourceSet_resetEgress {p : Port} {s : State} (exact : SubscriptionsExact s)
    (unlocked : (s.egress p).lock = false) : SourceSet p .none s (resetEgress p s) := by
  have upkeep := beforeReset_upkeep p s
  have before : SubscriptionsExact (beforeReset p s) := by
    refine exact.of_kept (fun st isOpen => ?_) (fun st q => upkeep.subscribers st q not_false) fun q => ?_
    · rw [(upkeep.streams st not_false).isOpen, isOpen]
    · by_cases own : q = p
      · subst own
        rw [beforeReset_egress_self]
        exact .of_same rfl rfl
      · exact .of_eq (upkeep.within.egress q own)
  rw [resetEgress_of_unlocked unlocked]
  refine ⟨by simp [Egress.initial], by simp [Egress.initial], fun q ne => ?_, fun n q => ?_⟩
  · rw [State.setEgress_egress_ne _ _ ne.symm, leaveSubscription_egress, upkeep.within.egress q ne]
  · rw [State.setEgress_stream, leaveSubscription_subscribers before, upkeep.subscribers n q not_false]
    by_cases own : q = p <;> simp [own]

/-- Beyond the egress and the subscription the port reset touches neither sources nor subscribers. -/
theorem resetPort_upkeep_before (p : Port) (s : State) :
    Upkeep { capture := fun q => q = p } s (resetCapture p s) := .resetCapture rfl s

theorem resetPort_upkeep_after (p : Port) (s : State) :
    Upkeep { notice := fun q => q = p, pin := fun q => q = p } s (resetNotices p (dropPin p s)) :=
  (Upkeep.dropPin rfl s).trans (.setNotice (.inl rfl))

theorem resetPort_eq (p : Port) (s : State) :
    resetPort p s = resetNotices p (dropPin p (resetEgress p (resetCapture p s))) := rfl

theorem sourceSet_resetPort {p : Port} {s : State} (exact : SubscriptionsExact s)
    (unlocked : (s.egress p).lock = false) : SourceSet p .none s (resetPort p s) := by
  have before := resetPort_upkeep_before p s
  have egress : ∀ q, (resetCapture p s).egress q = s.egress q := fun q => before.within.egress q not_false
  have exactBefore : SubscriptionsExact (resetCapture p s) :=
    exact.of_kept (fun st isOpen => by rw [(before.streams st not_false).isOpen, isOpen])
      (fun st q => before.subscribers st q not_false) fun q => .of_eq (egress q)
  have set := sourceSet_resetEgress (p := p) exactBefore (by rw [egress, unlocked])
  have after := resetPort_upkeep_after p (resetEgress p (resetCapture p s))
  rw [resetPort_eq]
  refine ⟨?_, ?_, fun q ne => ?_, fun n q => ?_⟩
  · rw [after.within.egress p not_false, set.source]
  · rw [after.within.egress p not_false, set.cursor]
  · rw [after.within.egress q not_false, set.others q ne, egress]
  · rw [after.subscribers n q not_false, set.subscribers, before.subscribers n q not_false]

theorem resetPort_egress_of_locked {p : Port} {s : State} (locked : (s.egress p).lock = true) (q : Port) :
    (resetPort p s).egress q = s.egress q := by
  have egress : ∀ q, (resetCapture p s).egress q = s.egress q := fun q =>
    (resetPort_upkeep_before p s).within.egress q not_false
  rw [resetPort_eq, (resetPort_upkeep_after p _).within.egress q not_false,
    resetEgress_of_locked (by rw [egress, locked]),
    egress]

theorem resetPort_subscribers_of_locked {p : Port} {s : State} (locked : (s.egress p).lock = true) (n : StreamNo)
    (q : Port) : hasMember ((resetPort p s).stream n).subscribers q = hasMember (s.stream n).subscribers q := by
  have before := resetPort_upkeep_before p s
  rw [resetPort_eq, (resetPort_upkeep_after p _).subscribers n q not_false,
    resetEgress_of_locked (by rw [before.within.egress p not_false, locked]), before.subscribers n q not_false]

/-! ### The three relations together -/

/-- Bindings, subscriptions and leaders in their relations. -/
structure RelationsHold (s : State) : Prop where
  bindings : BindingsAgree s
  subscriptions : SubscriptionsExact s
  followers : NoFollowerChain s

theorem RelationsHold.of_kept {s t : State} (h : RelationsHold s)
    (quiet : ∀ st, QuietFrom (s.stream st) (t.stream st))
    (subscribers : ∀ st p, hasMember (t.stream st).subscribers p = hasMember (s.stream st).subscribers p)
    (sources : ∀ p, SourceKept (s.egress p) (t.egress p)) : RelationsHold t :=
  ⟨h.bindings.of_quiet quiet,
    h.subscriptions.of_kept (fun st => by rw [(quiet st).isOpen]; exact id) subscribers sources,
    h.followers.of_kept sources⟩

theorem RelationsHold.of_sourceSet {s t : State} {p : Port} {v : Source} (h : RelationsHold s)
    (quiet : ∀ st, QuietFrom (s.stream st) (t.stream st)) (set : SourceSet p v s t)
    (openSource : ∀ st, v = .stream st → (s.stream st).state.isOpen = true)
    (leader : ∀ k, v = .follow k → k ≠ p ∧ (s.egress k).source.isFollow = false ∧
      ∀ j, (s.egress j).source ≠ .follow p) : RelationsHold t :=
  ⟨h.bindings.of_quiet quiet,
    h.subscriptions.of_sourceSet (fun st => by rw [(quiet st).isOpen]; exact id) set fun st is => by
      rw [(quiet st).isOpen, openSource st is],
    h.followers.of_sourceSet set leader⟩

/-- A stream record replaced by one with the same subscribers that is as open as before. -/
theorem RelationsHold.setStream {s : State} {st : StreamNo} {r : Stream} (h : RelationsHold s) (bound : StreamBound r)
    (fresh : r.binding = (s.stream st).binding ∨
      ∀ n, n ≠ st → r.binding.isSome = true → (s.stream n).binding ≠ r.binding)
    (isOpen : (s.stream st).state.isOpen = true → r.state.isOpen = true)
    (subscribers : ∀ p, hasMember r.subscribers p = hasMember (s.stream st).subscribers p) :
    RelationsHold (s.setStream st r) := by
  refine ⟨h.bindings.of_one (st := st) (fun n ne => ?_) (by rwa [State.setStream_stream_self]) ?_,
    h.subscriptions.of_kept (fun n before => ?_) (fun n p => ?_) fun p => .refl _, h.followers.of_kept fun p => .refl _⟩
  · rw [State.setStream_stream_ne _ _ ne.symm]
    exact .refl _
  · rwa [State.setStream_stream_self]
  · rw [State.setStream_stream]
    split
    · next e => exact isOpen (e ▸ before)
    · exact before
  · rw [State.setStream_stream]
    split
    · next e => exact e ▸ subscribers p
    · rfl

/-- A stream that is not open has no subscriber. -/
theorem no_subscriber_of_not_open {s : State} (exact : SubscriptionsExact s) {st : StreamNo}
    (notOpen : (s.stream st).state.isOpen = false) (p : Port) : hasMember (s.stream st).subscribers p = false := by
  refine Bool.eq_false_iff.2 fun member => ?_
  have isOpen := ((exact p).1 st).2 (((exact p).1 st).1.1 member)
  rw [notOpen] at isOpen
  cases isOpen

theorem isFollowed_eq_false_iff (s : State) (p : Port) :
    isFollowed s p = false ↔ ∀ j, (s.egress j).source ≠ .follow p := by
  simp [isFollowed, List.any_eq_false, mem_allPorts]

theorem relationsHold_closeStream {s : State} {st : StreamNo} (h : RelationsHold s)
    (isOpen : (s.stream st).state.isOpen = true) :
    RelationsHold (closeDrain st (closeSubscriptions st (closeUnbind st s))) := by
  obtain ⟨-, unbound, stopped, after⟩ := closeStream_stream isOpen
  have ownerBefore : (s.stream st).owner.isSome = true := (h.bindings.1 st).2.1.2 (ne_closed_of_isOpen isOpen)
  let x : Exempt :=
    { stream := fun n => n = st, capture := fun _ => True, egress := fun _ => True, subscriber := fun _ => True }
  have upkeep : Upkeep x s (closeDrain st (closeSubscriptions st (closeUnbind st s))) :=
    (Upkeep.closeUnbind rfl (fun _ => trivial) s).trans <|
      (Upkeep.closeSubscriptions (fun _ => trivial) (fun _ => trivial) _).trans (.closeDrain rfl _)
  generalize hu : closeDrain st (closeSubscriptions st (closeUnbind st s)) = u at unbound stopped after upkeep
  have subscribers : ∀ n p, hasMember (u.stream n).subscribers p =
      (hasMember (s.stream n).subscribers p && decide (n ≠ st)) := fun n p => hu ▸ closeStream_subscribers st n s p
  have egress : ∀ q, u.egress q =
      if hasMember (s.stream st).subscribers q = true then (s.egress q).unsubscribed else s.egress q :=
    fun q => hu ▸ closeStream_egress st s q
  refine ⟨h.bindings.of_one (st := st) (fun n ne => upkeep.streams n ne) ?_ (.inr fun n _ bound => ?_), fun p => ?_,
    fun p k follows => ?_⟩
  · obtain ⟨closed, noOwner⟩ | ⟨draining, owner⟩ := after
    · simp [StreamBound, unbound, stopped, closed, noOwner, StreamState.isOpen]
    · simp [StreamBound, unbound, stopped, draining, owner, ownerBefore, StreamState.isOpen]
  · simp [unbound] at bound
  · rw [egress]
    by_cases member : hasMember (s.stream st).subscribers p = true
    · have source := ((h.subscriptions p).1 st).1.1 member
      rw [if_pos member]
      refine ⟨fun n => ?_, nofun⟩
      rw [subscribers]
      by_cases same : n = st
      · simp [same, Egress.unsubscribed]
      · have notMember : hasMember (s.stream n).subscribers p = false := by
          refine Bool.eq_false_iff.2 fun other => same ?_
          have named := ((h.subscriptions p).1 n).1.1 other
          rw [source] at named
          injection named with eq
          exact eq.symm
        simp [notMember, Egress.unsubscribed]
    · rw [if_neg member]
      refine ⟨fun n => ?_, (h.subscriptions p).2⟩
      rw [subscribers]
      by_cases same : n = st
      · subst same
        have other : (s.egress p).source ≠ .stream n := fun is => member (((h.subscriptions p).1 n).1.2 is)
        simp [other]
      · rw [(upkeep.streams n same).isOpen]
        simpa [same] using (h.subscriptions p).1 n
  · have source : ∀ q, (u.egress q).source = (s.egress q).source ∨ (u.egress q).source = .none := fun q => by
      rw [egress]
      split
      · exact .inr rfl
      · exact .inl rfl
    have before : (s.egress p).source = .follow k := by
      obtain same | none := source p
      · exact same ▸ follows
      · simp [none] at follows
    obtain ⟨ne, notFollow⟩ := h.followers p k before
    refine ⟨ne, ?_⟩
    obtain same | none := source k
    · rw [same, notFollow]
    · rw [none]
      rfl

theorem relationsHold_of_effect {c : Instr} {s u : State} (h : RelationsHold s) (effect : Effect s c u)
    (notReset : ¬ isReset c) : RelationsHold u := by
  have upkeep := effect.upkeep notReset
  have kept : (∀ st, ¬ (exemptOf c).stream st) → (∀ p, ¬ (exemptOf c).subscriber p) → ¬ changesSource c →
      RelationsHold u := fun streams subscribers not =>
    h.of_kept (fun st => upkeep.streams st (streams st)) (fun st p => upkeep.subscribers st p (subscribers p))
      (effect.sourceKept notReset not)
  cases effect with
  | @openStream p b pp tg md q lines timeout st pr mode _ _ _ closed unbound _ =>
    have notOpen : (s.stream st).state.isOpen = false := by
      rw [closed]
      rfl
    refine h.setStream ?_ (.inr fun n _ _ => unbound n) (fun _ => rfl) fun p => ?_
    · simp [StreamBound, Stream.opened, StreamState.isOpen]
    · rw [no_subscriber_of_not_open h.subscriptions notOpen]
      exact hasMember_zero p
  | @setStream p b q lines timeout st _ _ passed _ _ =>
    obtain ⟨-, isOpen, owner, -⟩ := isOpen_of_ownerTests passed
    obtain ⟨binding, owned, timer⟩ := h.bindings.1 st
    refine h.setStream ⟨binding, owned, fun unbound => ?_⟩ (.inl rfl) id fun _ => rfl
    have bound := binding.2 isOpen
    change (s.stream st).binding = none at unbound
    simp [unbound] at bound
  | @lockStream p b st _ _ => exact h.setStream (h.bindings.1 st) (.inl rfl) id fun _ => rfl
  | closeStream _ passed => exact relationsHold_closeStream h (isOpen_of_ownerTests passed).2.1
  | subscribe _ _ isOpen =>
    refine h.of_sourceSet (fun st => upkeep.streams st not_false) (sourceSet_subscribe h.subscriptions)
      (fun n named => ?_) nofun
    injection named with same
    exact same ▸ isOpen
  | follow _ other _ notFollow notFollowed =>
    refine h.of_sourceSet (fun st => upkeep.streams st not_false)
      (sourceSet_changeSource h.subscriptions nofun) nofun fun k named => ?_
    injection named with same
    exact ⟨same ▸ other, same ▸ notFollow, (isFollowed_eq_false_iff s _).1 notFollowed⟩
  | detach =>
    exact h.of_sourceSet (fun st => upkeep.streams st not_false)
      (sourceSet_changeSource h.subscriptions nofun) nofun nofun
  | resetPort p =>
    have quiet : ∀ st, QuietFrom (s.stream st) ((resetPort p s).stream st) := fun st => upkeep.streams st not_false
    cases lock : (s.egress p).lock with
    | true =>
      exact h.of_kept quiet (resetPort_subscribers_of_locked lock) fun q =>
        .of_eq (resetPort_egress_of_locked lock q)
    | false => exact h.of_sourceSet quiet (sourceSet_resetPort h.subscriptions lock) nofun nofun
  | read => exact h
  | formatError =>
    exact h.of_kept (fun _ => .refl _) (fun _ _ => rfl) fun q => .of_eq (by simp [formatError, raiseAt])
  | powerOnReset => exact absurd (.inl rfl) notReset
  | partReset => exact absurd (.inr rfl) notReset
  | _ => exact kept (fun _ => id) (fun _ => id) id

theorem AtReset.relationsHold {t : State} (h : AtReset t) : RelationsHold t := by
  refine ⟨⟨fun st => ?_, fun a b bound _ => ?_⟩, fun p => ⟨fun st => ?_, ?_⟩, fun p k follows => ?_⟩
  · rw [h.stream]
    decide
  · simp [h.stream, Stream.initial] at bound
  · simp [h.stream, h.egress, Stream.initial, Egress.initial, hasMember]
  · simp [h.egress, Egress.initial]
  · simp [h.egress, Egress.initial] at follows

theorem relationsHold_exec (c : Instr) (s t : State) (h : RelationsHold s) (run : exec c s = .next t) :
    RelationsHold t := by
  by_cases reset : isReset c
  · exact (exec_atReset run reset).relationsHold
  have same : ∀ (u : State) (p : Port) (a : Option Answer), RelationsHold u → RelationsHold (u.setLink p a) :=
    fun u p a h => ⟨h.bindings, h.subscriptions, h.followers⟩
  cases exec_leaves run with
  | nothing => exact h
  | refusal => exact same _ _ _ h
  | answer _ effect => exact same _ _ _ (relationsHold_of_effect h effect reset)
  | event _ effect => exact relationsHold_of_effect h effect reset
  | discarded => exact same _ _ _ h

/-- Settles O55: events outside the stream table's and the source's commands keep bindings, subscribers and sources
(`RelationsHold.of_kept`); those commands change each together with its counterpart. -/
theorem stepKeepsBindingsAndSubscriptions : Obligations.StepKeepsBindingsAndSubscriptions := by
  intro s t bindings subscriptions followers h
  obtain ⟨b, sub, f⟩ := step_keeps (I := RelationsHold) (fun _ _ h => ⟨h.bindings, h.subscriptions, h.followers⟩)
    relationsHold_exec ⟨bindings, subscriptions, followers⟩ h
  exact ⟨b, sub, f⟩

end Sys2Proof.Machine

/-! What every step keeps of egresses, patterns and egress lanes (R95 to R99, R108, R114, R130, R134, R137, R172):
`Rewrites` names all that an event can make of an egress record. -/

namespace Sys2Proof.Machine

/-! ### What an event makes of an egress -/

/-- The record of the egress of port `p` after an event that meets the state `s`. -/
inductive Rewrites (s : State) (p : Port) : Egress → Prop
  | same : Rewrites s p (s.egress p)
  | reset : (s.egress p).lock = false → Rewrites s p Egress.initial
  | unsubscribed : Rewrites s p (s.egress p).unsubscribed
  | source (v : Source) : (s.egress p).lock = false → Rewrites s p { s.egress p with source := v, cursor := none }
  | timing (t : TimingSet) : (s.egress p).lock = false → t.InRange → Rewrites s p ((s.egress p).storeTiming t)
  | stopAsked : (s.egress p).lock = false → Rewrites s p
      { s.egress p with stopPending := decide ((s.egress p).run = .running) || (s.egress p).stopPending }
  | tracking (mode : TrackingMode) (window : Nat) : (s.egress p).lock = false → window ≤ 255 → Rewrites s p
      { s.egress p with tracking := mode, window := window, trackRequest := false, manualTotal := none }
  | trackNow : (s.egress p).lock = false → (s.egress p).tracking = .manual →
      Rewrites s p { s.egress p with trackRequest := true }
  | frozen (b : Bool) : (s.egress p).lock = false → Rewrites s p { s.egress p with frozen := b }
  | fallback (a : StallAction) (n : EntryNo) (fill : Vector Byte 4) : (s.egress p).lock = false →
      Rewrites s p { s.egress p with stallAction := a, fallbackEntry := n, fillWord := fill }
  | locked : (s.egress p).lock = false → Rewrites s p { s.egress p with lock := true }
  | started : (s.egress p).lock = false → (s.egress p).run = .stopped → Rewrites s p ((startEgress p s).egress p)
  | flipped : (s.egress p).run = .running → Rewrites s p ((flipDecision p s).egress p)
  | noLine : Rewrites s p { s.egress p with lane := [] }
  | line {n : Nat} {packets : List LanePacket} : nextFrameLine (s.egress p) = some n →
      frameLinePackets s (s.egress p) n = .ok packets →
      Rewrites s p { s.egress p with linePosition := some n, lineSent := true, lane := packets }

theorem Rewrites.of_same {s : State} {p : Port} {e : Egress} (same : e = s.egress p) : Rewrites s p e := same ▸ .same

theorem Rewrites.setEgress {s : State} {p : Port} {e : Egress} (h : Rewrites s p e) :
    Rewrites s p ((s.setEgress p e).egress p) := by
  rwa [State.setEgress_egress_self]

/-- The values SET_TIMING names lie in the ranges of R96. -/
theorem inRange_of_argTiming {lp a t n : Word16} {bp fp tg : Byte} {timing : TimingSet}
    (h : argTiming lp a bp fp t n tg = some timing) : timing.InRange := by
  unfold argTiming at h
  split at h
  · cases h
  · split at h
    · next values =>
      cases h
      simp only [between, Bool.and_eq_true, decide_eq_true_eq] at values
      have back := bp.isLt
      have front := fp.isLt
      simp only [TimingSet.InRange, Config.maxTotalLines, Config.maxLineBytes]
      omega
    · cases h

/-- The values WRITE_PATTERN names lie in the ranges of R134. -/
theorem inRange_of_argPattern {k bs bc : Byte} {w : Word16} {col : Vector Byte 16} {content : PatternContent}
    (h : argPattern k bs bc w col = some content) : content.InRange := by
  unfold argPattern at h
  split at h
  · cases h
  · split at h
    · next values =>
      cases h
      simp only [between, Bool.and_eq_true, decide_eq_true_eq, List.contains_iff_mem] at values
      exact ⟨values.1.1.1, values.1.1.2, values.1.2, values.2.1, values.2.2⟩
    · cases h

/-- The port reset makes an unlocked egress its initial record, and leaves the others (R131). -/
theorem resetEgress_egress_of_unlocked {p : Port} {s : State} (unlocked : (s.egress p).lock = false) (q : Port) :
    (resetEgress p s).egress q = if p = q then Egress.initial else s.egress q := by
  rw [resetEgress_of_unlocked unlocked, State.setEgress_egress]
  split
  · rfl
  · next other => rw [leaveSubscription_egress, (beforeReset_upkeep p s).within.egress q (Ne.symm other)]

theorem resetPort_egress_of_unlocked {p : Port} {s : State} (unlocked : (s.egress p).lock = false) (q : Port) :
    (resetPort p s).egress q = if p = q then Egress.initial else s.egress q := by
  have before : ∀ q, (resetCapture p s).egress q = s.egress q := fun q =>
    (resetPort_upkeep_before p s).within.egress q not_false
  rw [resetPort_eq, (resetPort_upkeep_after p _).within.egress q not_false,
    resetEgress_egress_of_unlocked (by rw [before, unlocked]), before]

/-- Every event but a reset of the part rewrites every egress as `Rewrites` says. -/
theorem Effect.rewrites {c : Instr} {s u : State} (h : Effect s c u) (notReset : ¬ isReset c) (q : Port) :
    Rewrites s q (u.egress q) := by
  have upkeep := h.upkeep notReset
  by_cases own : egressPort c = some q
  · cases h with
    | read => exact .same
    | resetPort =>
      cases own
      cases lock : (s.egress q).lock with
      | true => exact .of_same (resetPort_egress_of_locked lock q)
      | false =>
        rw [resetPort_egress_of_unlocked lock, if_pos rfl]
        exact .reset lock
    | subscribe _ unlocked => cases own; simpa [Machine.subscribe] using Rewrites.source _ unlocked
    | follow _ _ unlocked => cases own; simpa [changeSource] using Rewrites.source _ unlocked
    | detach unlocked => cases own; simpa [changeSource] using Rewrites.source _ unlocked
    | setTiming named unlocked =>
      cases own
      exact Rewrites.setEgress (.timing _ unlocked (inRange_of_argTiming named))
    | startEgress unlocked stopped => cases own; exact .started unlocked stopped
    | stopEgress unlocked => cases own; exact Rewrites.setEgress (.stopAsked unlocked)
    | @setTracking _ _ w mode unlocked =>
      cases own
      exact Rewrites.setEgress (.tracking _ _ unlocked (Nat.le_of_lt_succ w.isLt))
    | trackNow unlocked manual => cases own; exact Rewrites.setEgress (.trackNow unlocked manual)
    | freeze unlocked => cases own; exact Rewrites.setEgress (.frozen _ unlocked)
    | thaw unlocked => cases own; exact Rewrites.setEgress (.frozen _ unlocked)
    | setFallback unlocked => cases own; exact Rewrites.setEgress (.fallback _ _ _ unlocked)
    | lockEgress unlocked => cases own; exact Rewrites.setEgress (.locked unlocked)
    | flip running => cases own; exact .flipped running
    | noLine => cases own; exact Rewrites.setEgress .noLine
    | egressLine next packets => cases own; exact Rewrites.setEgress (.line next packets)
    | formatError => exact .of_same (by simp [Machine.formatError, raiseAt])
    | _ => cases own
  · by_cases closes : closesStream c
    · obtain ⟨p, b, rfl⟩ := command_of_closesStream closes
      cases h with
      | closeStream =>
        rw [closeStream_egress]
        split
        · exact .unsubscribed
        · exact .same
      | read => exact .same
      | formatError fails => exact fails.elim
    · exact .of_same (upkeep.within.egress q fun exempt => exempt.elim own closes)

/-- The egress after any event but a reset of the part. -/
theorem exec_rewrites {c : Instr} {s t : State} (h : exec c s = .next t) (notReset : ¬ isReset c) (q : Port) :
    Rewrites s q (t.egress q) := by
  cases exec_leaves h with
  | nothing => exact .same
  | refusal => exact .same
  | answer _ effect => exact effect.rewrites notReset q
  | event _ effect => exact effect.rewrites notReset q
  | discarded => exact .same

/-! ### Timing and run state (R95 to R99, R108 to R110) -/

/-- What of a RUNNING egress a flip needs to leave it well kept; the frame before the flip does not matter. -/
structure Egress.FlipReady (e : Egress) : Prop where
  running : e.run = .running
  timing : e.timing.InRange
  pending : ∀ t ∈ e.pendingTiming, t.InRange
  manual : ∀ n ∈ e.manualTotal, e.timing.Allows n
  window : e.window ≤ 255
  showing : e.ShowingWellKept
  request : e.trackRequest = true → e.tracking = .manual

theorem Egress.WellKept.flipReady {e : Egress} (h : e.WellKept) (running : e.run = .running) : e.FlipReady := by
  obtain ⟨⟨timing, pending, -, manual, -, window⟩, -, showing, request⟩ := h
  exact ⟨running, timing, fun t present => (pending t present).1, manual, window, showing, request⟩

theorem Egress.WellKept.flipReady_starting {e : Egress} (h : e.WellKept) : e.starting.FlipReady := by
  obtain ⟨⟨timing, pending, -, manual, -, window⟩, -, showing, request⟩ := h
  exact ⟨rfl, timing, fun t present => (pending t present).1, manual, window, showing, request⟩

theorem TimingSet.InRange.allows_total {t : TimingSet} (h : t.InRange) : t.Allows t.total :=
  ⟨h.2.2.2.2.2.1, h.2.2.2.2.2.2.1⟩

theorem Egress.FlipReady.applyPending {e : Egress} (h : e.FlipReady) :
    e.applyPending.FlipReady ∧ e.applyPending.pendingTiming = none := by
  unfold Egress.applyPending
  split
  · next none => exact ⟨h, none⟩
  · next t pending =>
    exact ⟨⟨h.running, h.pending t (by simp [pending]), nofun, nofun, h.window, h.showing, h.request⟩, rfl⟩

/-- The measurement and the timing's own total are allowed by the timing (R108, R109). -/
theorem evaluateTracking_allows {e : Egress} (h : e.timing.InRange) (interval : Option Word32) :
    e.timing.Allows (evaluateTracking e interval).1 := by
  unfold evaluateTracking
  split
  · exact h.allows_total
  · split
    · next inside =>
      simp only [inWindow, between, Bool.and_eq_true, decide_eq_true_eq] at inside
      exact inside.2
    · exact h.allows_total

theorem Egress.FlipReady.track {e : Egress} (h : e.FlipReady) (interval : Option Word32) :
    (e.track interval).1.FlipReady ∧ (e.track interval).1.timing.Allows (e.track interval).1.totalLines ∧
      (e.track interval).1.pendingTiming = e.pendingTiming := by
  have measured := evaluateTracking_allows h.timing interval
  unfold Egress.track
  split
  · exact ⟨{ h with }, h.timing.allows_total, rfl⟩
  · exact ⟨{ h with }, measured, rfl⟩
  · split
    · refine ⟨{ h with manual := fun n present => ?_, request := nofun }, measured, rfl⟩
      cases present
      exact measured
    · refine ⟨{ h with }, ?_, rfl⟩
      cases manual : e.manualTotal with
      | none => exact h.timing.allows_total
      | some n => exact h.manual n (by simp [manual])

/-- An egress whose frame length is set, before the frame is chosen. -/
structure Egress.Timed (e : Egress) : Prop extends e.FlipReady where
  noPending : e.pendingTiming = none
  total : e.timing.Allows e.totalLines

theorem Egress.FlipReady.tracked {e : Egress} (h : e.FlipReady) (s : State) : (trackedEgress s e).Timed := by
  obtain ⟨applied, none⟩ := h.applyPending
  obtain ⟨ready, total, same⟩ := applied.track (trackedInterval s e.applyPending)
  exact ⟨ready, same.trans none, total⟩

/-! ### The chosen frame (R114) -/

theorem Chosen.timed {s : State} {p : Port} {e e' : Egress} (h : Chosen s p e e') (timed : e.Timed)
    (leaders : ∀ k, (s.egress k).ShowingWellKept) : e'.Timed := by
  obtain ⟨⟨running, timing, pending, manual, window, showing, request⟩, noPending, total⟩ := timed
  have same : ∀ showing', (e'.run = e.run ∧ e'.timing = e.timing ∧ e'.pendingTiming = e.pendingTiming ∧
      e'.manualTotal = e.manualTotal ∧ e'.window = e.window ∧ e'.trackRequest = e.trackRequest ∧
      e'.tracking = e.tracking ∧ e'.totalLines = e.totalLines) → showing' = e'.ShowingWellKept →
      showing' → e'.Timed := by
    rintro _ ⟨r, t, pt, m, w, tr, tk, tl⟩ rfl showing'
    exact ⟨⟨r ▸ running, t ▸ timing, pt ▸ pending, m ▸ t ▸ manual, w ▸ window, showing', tr ▸ tk ▸ request⟩,
      pt ▸ noPending, t ▸ tl ▸ total⟩
  refine same _ ?_ rfl ?_
  · cases h <;> exact ⟨rfl, rfl, rfl, rfl, rfl, rfl, rfl, rfl⟩
  · cases h with
    | frozen => exact showing
    | repeated => exact showing
    | blank => simp [Egress.ShowingWellKept]
    | ownPattern => simp [Egress.ShowingWellKept]
    | taken => simp [Egress.ShowingWellKept]
    | leaderKept held => simp [Egress.ShowingWellKept, held]
    | leaderTaken => simp [Egress.ShowingWellKept]
    | @leaderPattern k n _ pattern =>
      have copy := (leaders k).2.2 ⟨n, pattern⟩
      simp [Egress.ShowingWellKept, copy]

theorem Egress.Timed.begun {e : Egress} (h : e.Timed) (lane : List LanePacket) : (e.counted.begun lane).WellKept := by
  have counted : e.counted.Timed := by
    unfold Egress.counted
    split
    · exact h
    · exact ⟨{ h.toFlipReady with }, h.noPending, h.total⟩
  have low := counted.timing.2.2.1
  have covers := counted.total.1
  have run : (e.counted.begun lane).run = .running := counted.running
  refine ⟨⟨counted.timing, ?_, counted.total, counted.manual, ?_, counted.window⟩, ⟨?_, ?_⟩, counted.showing,
    counted.request⟩
  · intro t present
    change t ∈ e.counted.pendingTiming at present
    simp [counted.noPending] at present
  · intro n present
    cases present
    change 0 < e.counted.totalLines
    omega
  · exact ⟨fun _ => rfl, fun _ => run⟩
  · intro stopped
    rw [run] at stopped
    cases stopped

/-- A flip that is not stopping leaves its egress well kept, when the leaders show what they have. -/
theorem wellKept_fullFlip {p : Port} {s : State} (ready : (s.egress p).FlipReady)
    (leaders : ∀ k, k ≠ p → (s.egress k).ShowingWellKept) : ((fullFlip p s).egress p).WellKept := by
  obtain ⟨e, chosen, record⟩ := fullFlip_egress_self p s
  rw [record]
  refine (chosen.timed (ready.tracked s) fun k => ?_).begun _
  by_cases own : k = p
  · rw [own, tracked_egress_self]
    exact (ready.tracked s).showing
  · rw [tracked_egress_ne own]
    exact leaders k own

/-- A stopping flip leaves its egress well kept (R102, R98). -/
theorem wellKept_stoppingFlip {p : Port} {s : State} (h : (s.egress p).WellKept) :
    ((stoppingFlip p s).egress p).WellKept := by
  obtain ⟨⟨timing, pending, total, manual, -, window⟩, -, -, request⟩ := h
  rw [stoppingFlip_egress_self]
  unfold Egress.applyPendingStopped
  split
  · next none =>
    refine ⟨⟨timing, fun t present => ?_, total, manual, nofun, window⟩, ⟨by simp [Egress.stopped], ?_⟩,
      by simp [Egress.ShowingWellKept, Egress.stopped], request⟩
    · change t ∈ (s.egress p).pendingTiming at present
      change (s.egress p).pendingTiming = _ at none
      simp [none] at present
    · exact fun _ => ⟨rfl, rfl, rfl, rfl⟩
  · next t waiting =>
    have inRange := (pending t waiting).1
    exact ⟨⟨inRange, nofun, inRange.allows_total, nofun, nofun, window⟩,
      ⟨by simp [Egress.stopped], fun _ => ⟨rfl, rfl, rfl, rfl⟩⟩,
      by simp [Egress.ShowingWellKept, Egress.stopped], request⟩

theorem Egress.unsubscribed_wellKept {e : Egress} (h : e.WellKept) : e.unsubscribed.WellKept := h

theorem Egress.wellKept_initial : Egress.initial.WellKept := by
  simp [Egress.WellKept, Egress.initial, Egress.TimingWellKept, Egress.RunWellKept, Egress.ShowingWellKept,
    TimingSet.InRange, TimingSet.Allows, TimingSet.default, Config.maxTotalLines, Config.maxLineBytes]

/-- A timing stored leaves the egress well kept (R97). -/
theorem Egress.WellKept.storeTiming {e : Egress} (h : e.WellKept) {t : TimingSet} (inRange : t.InRange) :
    (e.storeTiming t).WellKept := by
  obtain ⟨⟨timing, -, total, manual, position, window⟩, ⟨runs, idle⟩, showing, request⟩ := h
  cases run : e.run with
  | running =>
    rw [Egress.storeTiming_of_running t run]
    refine ⟨⟨timing, fun u present => ?_, total, manual, position, window⟩, ⟨runs, idle⟩, showing, request⟩
    cases present
    exact ⟨inRange, run⟩
  | stopped =>
    rw [Egress.storeTiming_of_stopped t run]
    refine ⟨⟨inRange, nofun, inRange.allows_total, nofun, fun n present => ?_, window⟩, ⟨runs, idle⟩, showing, request⟩
    have noPosition : e.linePosition.isSome = false := by
      refine Bool.eq_false_iff.2 fun some => ?_
      have running := runs.2 some
      simp [run] at running
    change n ∈ e.linePosition at present
    rw [Option.mem_def.1 present] at noPosition
    cases noPosition

/-- The next frame line of a RUNNING egress is one of its lines (R99). -/
theorem nextFrameLine_spec {e : Egress} {n : Nat} (h : nextFrameLine e = some n) :
    e.run = .running ∧ ∃ m, e.linePosition = some m ∧ (n = m ∨ n < e.totalLines) := by
  unfold nextFrameLine at h
  split at h
  · next m running position =>
    refine ⟨running, m, position, ?_⟩
    split at h
    · split at h
      · next more =>
        cases h
        exact .inr more
      · cases h
    · cases h
      exact .inl rfl
  · cases h

/-- Every rewrite leaves a well kept egress well kept. -/
theorem Rewrites.wellKept {s : State} {p : Port} {e : Egress} (h : Rewrites s p e) (kept : EgressesWellKept s) :
    e.WellKept := by
  obtain ⟨⟨timing, pending, total, manual, position, window⟩, ⟨runs, idle⟩, showing, request⟩ := kept p
  have leaders : ∀ k, k ≠ p → (s.egress k).ShowingWellKept := fun k _ => (kept k).2.2.1
  cases h with
  | same => exact kept p
  | reset => exact Egress.wellKept_initial
  | unsubscribed => exact kept p
  | source v => exact kept p
  | timing t _ inRange => exact (kept p).storeTiming inRange
  | stopAsked =>
    refine ⟨⟨timing, pending, total, manual, position, window⟩, ⟨runs, fun stopped => ?_⟩, showing, request⟩
    obtain ⟨blank, held, noStop, lane⟩ := idle stopped
    change (s.egress p).run = _ at stopped
    exact ⟨blank, held, by simp [stopped, noStop], lane⟩
  | tracking mode w _ low =>
    exact ⟨⟨timing, pending, total, nofun, position, low⟩, ⟨runs, idle⟩, showing, nofun⟩
  | trackNow _ isManual =>
    exact ⟨⟨timing, pending, total, manual, position, window⟩, ⟨runs, idle⟩, showing, fun _ => isManual⟩
  | frozen b => exact kept p
  | fallback a n fill => exact kept p
  | locked => exact kept p
  | started =>
    have full : flipDecision p (s.setEgress p (s.egress p).starting) =
        fullFlip p (s.setEgress p (s.egress p).starting) := by
      simp [flipDecision, Egress.starting]
    rw [startEgress_eq, full]
    refine wellKept_fullFlip ?_ fun k ne => ?_
    · rw [State.setEgress_egress_self]
      exact (kept p).flipReady_starting
    · rw [State.setEgress_egress_ne _ _ ne.symm]
      exact leaders k ne
  | flipped running =>
    unfold flipDecision
    split
    · exact wellKept_stoppingFlip (kept p)
    · exact wellKept_fullFlip ((kept p).flipReady running) leaders
  | noLine =>
    refine ⟨⟨timing, pending, total, manual, position, window⟩, ⟨runs, fun stopped => ?_⟩, showing, request⟩
    obtain ⟨blank, held, noStop, -⟩ := idle stopped
    exact ⟨blank, held, noStop, rfl⟩
  | @line n packets next _ =>
    obtain ⟨running, m, present, inside⟩ := nextFrameLine_spec next
    refine ⟨⟨timing, pending, total, manual, fun k named => ?_, window⟩,
      ⟨⟨fun _ => rfl, fun _ => running⟩, fun stopped => ?_⟩,
      showing, request⟩
    · cases named
      have := position m present
      change n < (s.egress p).totalLines
      omega
    · change (s.egress p).run = _ at stopped
      simp [running] at stopped

/-! ### Pattern copies (R134, R139) -/

theorem Egress.patternCopy_counted (e : Egress) : e.counted.patternCopy = e.patternCopy := by
  unfold Egress.counted
  split <;> rfl

theorem trackedEgress_patternCopy (s : State) (e : Egress) : (trackedEgress s e).patternCopy = e.patternCopy := by
  unfold trackedEgress Egress.track Egress.applyPending
  grind

theorem Chosen.patternCopy {s : State} {p : Port} {e e' : Egress} (h : Chosen s p e e') (inRange : PatternsInRange s)
    (own : ∀ c ∈ e.patternCopy, c.InRange) : ∀ c ∈ e'.patternCopy, c.InRange := by
  cases h with
  | frozen => exact own
  | repeated => exact own
  | blank => exact nofun
  | ownPattern =>
    intro c copied
    cases copied
    exact (inRange.1 _).1
  | taken => exact nofun
  | leaderKept => exact nofun
  | leaderTaken => exact nofun
  | leaderPattern => exact inRange.2 _

theorem fullFlip_patternCopy {p : Port} {s : State} (inRange : PatternsInRange s) :
    ∀ c ∈ ((fullFlip p s).egress p).patternCopy, c.InRange := by
  obtain ⟨e, chosen, record⟩ := fullFlip_egress_self p s
  have own : ∀ c ∈ (trackedEgress s (s.egress p)).patternCopy, c.InRange := by
    rw [trackedEgress_patternCopy]
    exact inRange.2 p
  have tracked : PatternsInRange (tracked p s) := by
    refine ⟨fun n => ?_, fun k => ?_⟩
    · rw [State.pattern, tracked_patterns]
      exact inRange.1 n
    · by_cases same : k = p
      · rw [same, tracked_egress_self]
        exact own
      · rw [tracked_egress_ne same]
        exact inRange.2 k
  have copied := chosen.patternCopy tracked own
  rw [← e.patternCopy_counted] at copied
  rw [record]
  exact copied

/-- The copy lies in range after a rewrite, when entries and copies did before. -/
theorem Rewrites.patternCopy {s : State} {p : Port} {e : Egress} (h : Rewrites s p e) (inRange : PatternsInRange s) :
    ∀ c ∈ e.patternCopy, c.InRange := by
  have own := inRange.2 p
  have flips : ∀ u : State, PatternsInRange u → ∀ c ∈ ((flipDecision p u).egress p).patternCopy, c.InRange := by
    intro u inRange
    unfold flipDecision
    split
    · rw [stoppingFlip_egress_self]
      unfold Egress.applyPendingStopped
      split <;> exact nofun
    · exact fullFlip_patternCopy inRange
  cases h with
  | reset => exact nofun
  | timing t =>
    cases run : (s.egress p).run with
    | running =>
      rw [Egress.storeTiming_of_running t run]
      exact own
    | stopped =>
      rw [Egress.storeTiming_of_stopped t run]
      exact own
  | started =>
    rw [startEgress_eq]
    refine flips _ ⟨inRange.1, fun k => ?_⟩
    rw [State.setEgress_egress]
    split
    · exact own
    · exact inRange.2 k
  | flipped => exact flips s inRange
  | _ => exact own

/-! ### The pattern entries (R134, R136, R137) -/

/-- The rules of R134 and R137 for one entry. -/
abbrev PatternEntry.WellKept (r : PatternEntry) : Prop :=
  r.content.InRange ∧ (r.lock = true → r.valid = true) ∧
    (r.valid = false → r.content = PatternEntry.cleared.content)

theorem PatternEntry.wellKept_cleared : PatternEntry.cleared.WellKept := by decide

theorem Effect.patterns {c : Instr} {s u : State} (h : Effect s c u) (notReset : ¬ isReset c)
    (kept : ∀ n, (s.pattern n).WellKept) (n : EntryNo) : (u.pattern n).WellKept := by
  by_cases own : (exemptOf c).pattern n
  · obtain ⟨p, b, k, bs, bc, w, col, rfl, -⟩ | ⟨p, b, rfl, -⟩ := command_of_exempt_pattern own
    · cases h with
      | writePattern _ named unlocked =>
        rw [State.setPattern_pattern]
        split
        · exact ⟨inRange_of_argPattern named, fun _ => rfl, nofun⟩
        · exact kept n
      | read => exact kept n
      | formatError fails => exact fails.elim
    · cases h with
      | @lockPattern _ _ m _ valid =>
        rw [State.setPattern_pattern]
        split
        · exact ⟨(kept m).1, fun _ => valid, (kept m).2.2⟩
        · exact kept n
      | read => exact kept n
      | formatError fails => exact fails.elim
  · rw [(h.upkeep notReset).within.pattern n own]
    exact kept n

/-- The pattern entries after any event. -/
theorem exec_patterns {c : Instr} {s t : State} (h : exec c s = .next t) (kept : ∀ n, (s.pattern n).WellKept)
    (n : EntryNo) : (t.pattern n).WellKept := by
  by_cases reset : isReset c
  · obtain rfl | rfl := reset
    · cases h
      rw [State.powerOn]
      exact (State.reset_pattern n).symm ▸ PatternEntry.wellKept_cleared
    · cases h
      exact kept n
  · cases exec_leaves h with
    | nothing => exact kept n
    | refusal => exact kept n
    | answer _ effect => exact effect.patterns reset kept n
    | event _ effect => exact effect.patterns reset kept n
    | discarded => exact kept n

theorem egressesWellKept_exec {c : Instr} {s t : State} (kept : EgressesWellKept s) (run : exec c s = .next t) :
    EgressesWellKept t := by
  intro p
  by_cases reset : isReset c
  · rw [(exec_atReset run reset).egress]
    exact Egress.wellKept_initial
  · exact (exec_rewrites run reset p).wellKept kept

theorem patternsInRange_exec {c : Instr} {s t : State} (inRange : PatternsInRange s) (run : exec c s = .next t) :
    PatternsInRange t := by
  refine ⟨exec_patterns run inRange.1, fun p => ?_⟩
  by_cases reset : isReset c
  · rw [(exec_atReset run reset).egress]
    exact nofun
  · exact (exec_rewrites run reset p).patternCopy inRange

/-- Settles O56: every rewrite of an egress (`exec_rewrites`) keeps it well kept and its pattern copy in range; entries
change at WRITE_PATTERN, which tests the ranges, and at LOCK_PATTERN. -/
theorem stepKeepsEgressesAndPatternsInRange : Obligations.StepKeepsEgressesAndPatternsInRange :=
  fun _ _ egresses patterns h =>
    step_keeps (I := fun s => EgressesWellKept s ∧ PatternsInRange s) (fun _ _ => id)
      (fun _ _ _ ⟨egresses, patterns⟩ run => ⟨egressesWellKept_exec egresses run, patternsInRange_exec patterns run⟩)
      ⟨egresses, patterns⟩ h

end Sys2Proof.Machine

/-! The packets of the egress lanes (R103 to R105, R172), and what locks keep (R38, R130, R137). -/

namespace Sys2Proof.Machine

/-! ### The payload of a line (R104, R105) -/

@[simp] theorem length_fillBytes (fill : Vector Byte 4) (a b : Nat) : (fillBytes fill a b).length = b - a := by
  simp [fillBytes]

@[simp] theorem PatternContent.length_line (c : PatternContent) (n : Nat) : (c.line n).length = n := by
  simp [PatternContent.line]

theorem length_of_fetch {s : State} {a n : Nat} {bs : List Byte} (h : s.fetch a n = .ok bs) : bs.length = n := by
  unfold State.fetch at h
  split at h
  · cases h
    exact Memory.length_readAll ..
  · cases h

theorem length_of_pageLinePayload {s : State} {e : Egress} {g : PageNo} {k : Nat} {payload : List Byte}
    (h : pageLinePayload s e g k = .ok payload) : payload.length = e.timing.lineBytes := by
  unfold pageLinePayload at h
  dsimp only at h
  split at h
  · cases fetched : s.fetch (lineAddress s g k) (min ((s.page g).directory.getD k 0) e.timing.lineBytes) with
    | error f =>
      rw [fetched] at h
      cases h
    | ok bs =>
      rw [fetched] at h
      cases h
      have bytes := length_of_fetch fetched
      rw [List.length_append, bytes, length_fillBytes]
      omega
  · cases h
    exact length_fillBytes ..

/-- Every active line has as many bytes as the timing says (R104). -/
theorem length_of_linePayload {s : State} {e : Egress} {k : Nat} {payload : List Byte}
    (h : linePayload s e k = .ok payload) : payload.length = e.timing.lineBytes := by
  unfold linePayload at h
  split at h
  · exact length_of_pageLinePayload h
  · cases h
    exact PatternContent.length_line ..
  · cases h
    exact length_fillBytes ..

/-! ### Packets in range with right checks (R172) -/

/-- A packet with its fields in range and its payload check right (R172). -/
abbrev PacketGood (k : LanePacket) : Prop := k.inRange = true ∧ LanePacket.checkHolds k

theorem toNat_ofNat_of_lt {n w : Nat} (h : n < 2 ^ w) : (BitVec.ofNat w n).toNat = n := by
  rw [BitVec.toNat_ofNat, Nat.mod_eq_of_lt h]

theorem good_line {tag : Tag} {k : Nat} {payload : List Byte} (number : k ≤ 4094) (low : 1 ≤ payload.length)
    (high : payload.length ≤ 8192) :
    PacketGood (LanePacket.line tag (BitVec.ofNat 16 k) payload (payloadCheck payload)) := by
  refine ⟨(lineInRange_iff ..).2 ⟨?_, low, high⟩, rfl⟩
  rwa [toNat_ofNat_of_lt (by omega)]

theorem good_sideband {tag : Tag} {payload : List Byte} (low : 1 ≤ payload.length) (high : payload.length ≤ 32) :
    PacketGood (LanePacket.sideband tag payload (payloadCheck payload)) :=
  ⟨(sidebandInRange_iff _).2 ⟨low, high⟩, rfl⟩

theorem good_frameEnd {tag : Tag} {n : Nat} (lines : n ≤ 4095) :
    PacketGood (LanePacket.frameEnd tag 0 (BitVec.ofNat 16 n)) := by
  refine ⟨?_, trivial⟩
  change frameEndInRange _ _ = true
  simp only [frameEndInRange, toNat_ofNat_of_lt (show n < 2 ^ 16 by omega), Config.maxLines]
  simpa using lines

/-- The metadata of a well kept page goes out in good packets (R103). -/
theorem good_metadataPackets {tag : Tag} {m : Option (List Byte)} (fits : ∀ b ∈ m, 1 ≤ b.length ∧ b.length ≤ 64) :
    ∀ k ∈ metadataPackets tag m, PacketGood k := by
  unfold metadataPackets
  split
  · exact nofun
  · next b =>
    obtain ⟨low, high⟩ := fits b rfl
    split
    · next short =>
      simp only [List.mem_singleton, forall_eq]
      exact good_sideband low short
    · next long =>
      simp only [List.mem_cons, List.not_mem_nil, or_false, forall_eq_or_imp, forall_eq]
      exact ⟨good_sideband (by simp; omega) (by simp), good_sideband (by simp; omega) (by simp; omega)⟩

/-- The packets that open a frame are good (R103). -/
theorem good_frameOpening {s : State} (pages : PagesWellKept s) (e : Egress) :
    ∀ k ∈ frameOpening s e, PacketGood k := by
  have blank : ∀ k ∈ [LanePacket.frameStart e.timing.tag 0 0], PacketGood k := by
    simp only [List.mem_singleton, forall_eq]
    exact ⟨rfl, trivial⟩
  unfold frameOpening
  split
  · next g _ _ =>
    obtain ⟨-, metadata, -, -, kind⟩ := pages g
    simp only [List.mem_cons, forall_eq_or_imp]
    exact ⟨⟨decide_eq_true kind, trivial⟩, good_metadataPackets metadata⟩
  · exact blank

/-- The packets of an active line are good (R104). -/
theorem good_activeLinePackets {t : TimingSet} (inRange : t.InRange) {k : Nat} (active : k < t.active)
    {payload : List Byte} (length : payload.length = t.lineBytes) :
    ∀ a ∈ activeLinePackets t k payload, PacketGood a := by
  obtain ⟨-, -, -, -, -, covers, total, low, high⟩ := inRange
  simp only [Config.maxTotalLines, Config.maxLineBytes] at total high
  unfold activeLinePackets
  simp only [List.mem_cons, forall_eq_or_imp]
  refine ⟨good_line (by omega) (by omega) (by omega), fun a listed => ?_⟩
  split at listed
  · simp only [List.mem_singleton] at listed
    exact listed ▸ good_frameEnd (by omega)
  · cases listed

theorem good_frameLinePackets {s : State} {e : Egress} {n : Nat} {packets : List LanePacket}
    (inRange : e.timing.InRange) (sent : frameLinePackets s e n = .ok packets) : ∀ k ∈ packets, PacketGood k := by
  unfold frameLinePackets at sent
  split at sent
  · cases payload : linePayload s e (n - e.timing.backPorch) with
    | error f => simp [payload, Except.map] at sent
    | ok bs =>
      simp only [payload, Except.map] at sent
      cases sent
      exact good_activeLinePackets inRange (by omega) (length_of_linePayload payload)
  · cases sent
    exact nofun

/-! ### The lane after each rewrite -/

/-- The flip up to the begin of its frame keeps the page records in order. -/
theorem settled_upkeep (p : Port) (s : State) : Upkeep { egress := fun q => q = p } s (settled p s) :=
  (Upkeep.setEgress rfl ..).trans <| (Upkeep.trackTotal rfl ..).trans <| (Upkeep.chooseFrame rfl ..).trans <|
    .settleFallback rfl ..

theorem fullFlip_lane (p : Port) (s : State) :
    ∃ e, ((fullFlip p s).egress p).lane = frameOpening (settled p s) e := by
  obtain ⟨e, -, record⟩ := fullFlip_egress_self p s
  exact ⟨e.counted, by rw [record]; rfl⟩

theorem good_flipDecision {p : Port} {s : State} (pages : PagesWellKept s) :
    ∀ k ∈ ((flipDecision p s).egress p).lane, PacketGood k := by
  unfold flipDecision
  split
  · rw [stoppingFlip_egress_self]
    unfold Egress.applyPendingStopped
    split <;> exact nofun
  · obtain ⟨e, lane⟩ := fullFlip_lane p s
    rw [lane]
    exact good_frameOpening ((settled_upkeep p s).pages pages) e

theorem Rewrites.lane {s : State} {p : Port} {e : Egress} (h : Rewrites s p e) (pages : PagesWellKept s)
    (inRange : (s.egress p).timing.InRange) (good : ∀ k ∈ (s.egress p).lane, PacketGood k) :
    ∀ k ∈ e.lane, PacketGood k := by
  cases h with
  | reset => exact nofun
  | timing t =>
    cases run : (s.egress p).run with
    | running =>
      rw [Egress.storeTiming_of_running t run]
      exact good
    | stopped =>
      rw [Egress.storeTiming_of_stopped t run]
      exact good
  | started => exact good_flipDecision (s := s.setEgress p (s.egress p).starting) pages
  | flipped => exact good_flipDecision pages
  | noLine => exact nofun
  | line _ sent => exact good_frameLinePackets inRange sent
  | _ => exact good

/-- The pool, the egresses and the lanes together. -/
structure LanesKept (s : State) : Prop where
  pages : PagesWellKept s
  egresses : EgressesWellKept s
  lanes : LanePacketsGood s

theorem lanesKept_exec (c : Instr) (s t : State) (h : LanesKept s) (run : exec c s = .next t) : LanesKept t := by
  refine ⟨(pool_exec run).1 h.pages, egressesWellKept_exec h.egresses run, fun p => ?_⟩
  by_cases reset : isReset c
  · rw [(exec_atReset run reset).egress]
    exact nofun
  · obtain ⟨⟨timing, -⟩, -⟩ := h.egresses p
    exact (exec_rewrites run reset p).lane h.pages timing (h.lanes p)

/-- Settles O57: the lane carries the opening of a frame on well kept pages, the packets of a line of a timing in
range, what it carried before, or nothing. -/
theorem stepKeepsLanePacketsGood : Obligations.StepKeepsLanePacketsGood :=
  fun _ _ pages egresses lanes h =>
    (step_keeps (I := LanesKept) (fun _ _ h => ⟨h.pages, h.egresses, h.lanes⟩) lanesKept_exec
      ⟨pages, egresses, lanes⟩ h).lanes

/-! ### Locks (R38, R130, R135, R137) -/

/-- A locked entry is written at a power-on reset alone (R135 to R137). -/
theorem exec_pattern_of_locked {c : Instr} {s t : State} (h : exec c s = .next t) (notPowerOn : c ≠ .powerOnReset)
    {e : EntryNo} (lock : (s.pattern e).lock = true) : t.pattern e = s.pattern e := by
  have effects : ∀ u, Effect s c u → ¬ isReset c → u.pattern e = s.pattern e := by
    intro u effect notReset
    by_cases own : (exemptOf c).pattern e
    · obtain ⟨p, b, k, bs, bc, w, col, rfl, hb⟩ | ⟨p, b, rfl, hb⟩ := command_of_exempt_pattern own
      · cases effect with
        | @writePattern _ _ _ _ _ _ _ n _ hn _ unlocked =>
          obtain rfl : n = e := Fin.ext (hn.symm.trans hb)
          rw [lock] at unlocked
          cases unlocked
        | read => rfl
        | formatError fails => exact fails.elim
      · cases effect with
        | @lockPattern _ _ n hn valid =>
          obtain rfl : n = e := Fin.ext (hn.symm.trans hb)
          rw [State.setPattern_pattern_self, ← lock]
        | read => rfl
        | formatError fails => exact fails.elim
    · exact (effect.upkeep notReset).within.pattern e own
  by_cases reset : isReset c
  · obtain rfl := reset.resolve_left notPowerOn
    cases h
    rfl
  · cases exec_leaves h with
    | nothing => rfl
    | refusal => rfl
    | answer _ effect =>
      have kept := effects _ effect reset
      exact kept
    | event _ effect => exact effects _ effect reset
    | discarded => rfl

/-- A rewrite of a locked egress keeps its settings, and its source but for the end of its subscription (R130). -/
theorem Rewrites.of_locked {s : State} {p : Port} {e : Egress} (h : Rewrites s p e) (lock : (s.egress p).lock = true) :
    (s.egress p).SameSettings e ∨ e = (s.egress p).unsubscribed := by
  have refl := Egress.SameSettings.refl (s.egress p)
  cases h with
  | same => exact .inl refl
  | unsubscribed => exact .inr rfl
  | flipped => exact .inl (sameSettings_flipDecision p s)
  | noLine => exact .inl ⟨rfl, rfl, rfl, rfl, rfl, rfl, rfl, rfl⟩
  | line => exact .inl ⟨rfl, rfl, rfl, rfl, rfl, rfl, rfl, rfl⟩
  | reset unlocked => simp [lock] at unlocked
  | source _ unlocked => simp [lock] at unlocked
  | timing _ unlocked => simp [lock] at unlocked
  | stopAsked unlocked => simp [lock] at unlocked
  | tracking _ _ unlocked => simp [lock] at unlocked
  | trackNow unlocked => simp [lock] at unlocked
  | frozen _ unlocked => simp [lock] at unlocked
  | fallback _ _ _ unlocked => simp [lock] at unlocked
  | locked unlocked => simp [lock] at unlocked
  | started unlocked => simp [lock] at unlocked

/-- The settings of a stream that its lock protects, with the owner (R38). -/
structure StreamSettingsKept (r r' : Stream) : Prop where
  lock : r'.lock = r.lock
  isOpen : r'.state.isOpen = r.state.isOpen
  owner : r'.owner = r.owner
  binding : r'.binding = r.binding
  mode : r'.mode = r.mode
  quota : r'.quota = r.quota
  expectedLines : r'.expectedLines = r.expectedLines
  stallTimeout : r'.stallTimeout = r.stallTimeout

theorem StreamSettingsKept.refl (r : Stream) : StreamSettingsKept r r := ⟨rfl, rfl, rfl, rfl, rfl, rfl, rfl, rfl⟩

theorem QuietFrom.settingsKept {r r' : Stream} (h : QuietFrom r r') (isOpen : r.state.isOpen = true) :
    StreamSettingsKept r r' := by
  have owner : r'.owner = r.owner := by
    obtain ⟨-, same⟩ | ⟨draining, -⟩ := h.state
    · exact same
    · simp [draining, StreamState.isOpen] at isOpen
  exact ⟨h.lock, h.isOpen, owner, h.binding, h.mode, h.quota, h.expectedLines, h.stallTimeout⟩

/-- The commands that write a stream's settings name it in their stream byte. -/
theorem streamNamed_of_exempt {c : Instr} {st : StreamNo} (own : (exemptOf c).stream st) :
    (∃ p b pp tg md q lines timeout, c = .openStream p b pp tg md q lines timeout ∧ b.toNat = st.val) ∨
      (∃ p b q lines timeout, c = .setStream p b q lines timeout ∧ b.toNat = st.val) ∨
      (∃ p b, c = .closeStream p b ∧ b.toNat = st.val) ∨ ∃ p b, c = .lockStream p b ∧ b.toNat = st.val := by
  cases c
  case openStream p b pp tg md q lines timeout => exact .inl ⟨p, b, pp, tg, md, q, lines, timeout, rfl, own⟩
  case setStream p b q lines timeout => exact .inr (.inl ⟨p, b, q, lines, timeout, rfl, own⟩)
  case closeStream p b => exact .inr (.inr (.inl ⟨p, b, rfl, own⟩))
  case lockStream p b => exact .inr (.inr (.inr ⟨p, b, rfl, own⟩))
  all_goals exact own.elim

/-- A locked stream that is open keeps its settings: the commands that write them refuse it (R30, R38). -/
theorem Effect.stream_of_locked {c : Instr} {s u : State} (h : Effect s c u) (notReset : ¬ isReset c) {st : StreamNo}
    (lock : (s.stream st).lock = true) (isOpen : (s.stream st).state.isOpen = true) :
    StreamSettingsKept (s.stream st) (u.stream st) := by
  by_cases own : (exemptOf c).stream st
  · obtain ⟨p, b, pp, tg, md, q, lines, timeout, rfl, hb⟩ | ⟨p, b, q, lines, timeout, rfl, hb⟩ | ⟨p, b, rfl, hb⟩ |
      ⟨p, b, rfl, hb⟩ := streamNamed_of_exempt own
    · cases h with
      | @openStream _ _ _ _ _ _ _ _ n _ _ hn _ _ closed =>
        obtain rfl : n = st := Fin.ext (hn.symm.trans hb)
        simp [closed, StreamState.isOpen] at isOpen
      | read => exact .refl _
      | formatError fails => exact fails.elim
    · cases h with
      | @setStream _ _ _ _ _ n hn _ passed =>
        obtain rfl : n = st := Fin.ext (hn.symm.trans hb)
        have unlocked := (isOpen_of_ownerTests passed).2.2.2 rfl
        simp [lock] at unlocked
      | read => exact .refl _
      | formatError fails => exact fails.elim
    · cases h with
      | @closeStream _ _ n hn passed =>
        obtain rfl : n = st := Fin.ext (hn.symm.trans hb)
        have unlocked := (isOpen_of_ownerTests passed).2.2.2 rfl
        simp [lock] at unlocked
      | read => exact .refl _
      | formatError fails => exact fails.elim
    · cases h with
      | @lockStream _ _ n hn _ =>
        obtain rfl : n = st := Fin.ext (hn.symm.trans hb)
        rw [State.setStream_stream_self]
        exact ⟨lock.symm, rfl, rfl, rfl, rfl, rfl, rfl, rfl⟩
      | read => exact .refl _
      | formatError fails => exact fails.elim
  · exact ((h.upkeep notReset).streams st own).settingsKept isOpen

theorem exec_stream_of_locked {c : Instr} {s t : State} (h : exec c s = .next t) (notReset : ¬ isReset c)
    {st : StreamNo} (lock : (s.stream st).lock = true) (isOpen : (s.stream st).state.isOpen = true) :
    StreamSettingsKept (s.stream st) (t.stream st) := by
  cases exec_leaves h with
  | nothing => exact .refl _
  | refusal => exact .refl _
  | answer _ effect => exact effect.stream_of_locked notReset lock isOpen
  | event _ effect => exact effect.stream_of_locked notReset lock isOpen
  | discarded => exact .refl _

/-- What a transition keeps of one state's locked records, the resets `powerOn` and `part` apart. -/
structure LocksHold (powerOn part : Prop) (s t : State) : Prop where
  pattern : ¬ powerOn → ∀ e, (s.pattern e).lock = true → t.pattern e = s.pattern e
  stream : ¬ powerOn → ¬ part → ∀ st, (s.stream st).lock = true → (s.stream st).state.isOpen = true →
    StreamSettingsKept (s.stream st) (t.stream st)
  egress : ¬ powerOn → ¬ part → ∀ p, (s.egress p).lock = true →
    (s.egress p).SameSettings (t.egress p) ∨ t.egress p = (s.egress p).unsubscribed

theorem locksHold_exec {c : Instr} {s t : State} (h : exec c s = .next t) :
    LocksHold (c = .powerOnReset) (c = .partReset) s t where
  pattern no _ lock := exec_pattern_of_locked h no lock
  stream no noPart _ lock isOpen := exec_stream_of_locked h (fun reset => reset.elim no noPart) lock isOpen
  egress no noPart p lock := (exec_rewrites h (fun reset => reset.elim no noPart) p).of_locked lock

theorem locksHold_step {s t : State} (h : step s = .next t) :
    LocksHold (s.pending.head? = some .powerOnReset) (s.pending.head? = some .partReset) s t := by
  cases pending : s.pending with
  | nil =>
    rw [step_empty pending] at h
    cases h
    exact ⟨fun _ _ _ => rfl, fun _ _ _ _ _ => .refl _, fun _ _ _ _ => .inl (.refl _)⟩
  | cons c rest =>
    rw [step_front pending] at h
    obtain ⟨pattern, stream, egress⟩ := locksHold_exec h
    simp only [List.head?_cons, Option.some.injEq]
    exact ⟨pattern, stream, egress⟩

/-- Settles O51: locked records are refused by the commands that would write them; flips, frame lines and the end of
a subscription leave the settings (`Rewrites.of_locked`). -/
theorem lockedRecordsKeepTheirSettings : Obligations.LockedRecordsKeepTheirSettings := by
  intro s t h
  obtain ⟨pattern, stream, egress⟩ := locksHold_step h
  refine ⟨pattern, fun noPowerOn noPart => ⟨fun st lock isOpen => ?_, fun p lock => ?_⟩⟩
  · have kept := stream noPowerOn noPart st lock isOpen
    exact ⟨kept.lock.trans lock, kept.isOpen.trans isOpen, kept.owner, kept.binding, kept.mode, kept.quota,
      kept.expectedLines, kept.stallTimeout⟩
  · obtain same | ended := egress noPowerOn noPart p lock
    · exact ⟨same.lock.trans lock, same.tracking, same.window, same.frozen, same.stallAction, same.fallbackEntry,
        same.fillWord, .inl same.source⟩
    · rw [ended]
      exact ⟨lock, rfl, rfl, rfl, rfl, rfl, rfl, .inr rfl⟩

end Sys2Proof.Machine

/-! The machine's step, its resets and its answers (R40, R69, R167, R168, R171): what every event comes to, from the
tests each meaning makes first. -/

namespace Sys2Proof.Machine

/-! ### Steps and stops (log entries 1 and 17) -/

/-- Settles O1: both halves are `step` read at a queue of one form. -/
theorem stepTakesTheFrontCommand : Obligations.StepTakesTheFrontCommand :=
  ⟨fun _ _ _ => rfl, fun _ => step_empty⟩

/-- The command comes to no fault. -/
def CommandResult.Answers : CommandResult → Prop
  | .refuse _ => True
  | .done _ _ => True
  | .stop _ => False

@[simp] theorem CommandResult.answers_refuse (st : Status) : (CommandResult.refuse st).Answers := trivial

@[simp] theorem CommandResult.answers_done (u : State) (a : Answer) : (CommandResult.done u a).Answers := trivial

@[simp] theorem CommandResult.answers_ok (u : State) (r : List Byte) : (CommandResult.ok u r).Answers := trivial

@[simp] theorem answers_egressOk (p : Port) (f : Egress → Egress) (s : State) : (egressOk p f s).Answers := trivial

theorem answers_ite {P : Prop} [Decidable P] {a b : CommandResult} (ha : a.Answers) (hb : b.Answers) :
    (if P then a else b).Answers := by
  split
  · exact ha
  · exact hb

theorem answers_unlessLocked {p : Port} {s : State} {r : CommandResult} (h : r.Answers) :
    (unlessLocked p s r).Answers := answers_ite trivial h

theorem answers_openStream (p : Port) (st : StreamNo) (pr : Pair) (mode : Mode) (q l t : Nat) (s : State) :
    (openStream p st pr mode q l t s).Answers :=
  answers_ite trivial <| answers_ite trivial <| answers_ite trivial <| answers_ite trivial trivial

theorem answers_setStream (st : StreamNo) (q l t : Nat) (s : State) : (setStream st q l t s).Answers :=
  answers_ite trivial <| answers_ite trivial trivial

theorem answers_pinPage (p : Port) (g : PageNo) (s : State) : (pinPage p g s).Answers := answers_ite trivial trivial

/-- A command that comes to no fault has a next state. -/
theorem onLink_of_answers {p : Port} {s : State} {r : CommandResult} (h : r.Answers) : ∃ t, onLink p s r = .next t := by
  unfold onLink
  split
  · exact ⟨s, rfl⟩
  · cases r with
    | refuse st => exact ⟨_, rfl⟩
    | done u a => exact ⟨_, rfl⟩
    | stop f => exact h.elim

theorem exists_next_outOfReset (s t : State) : ∃ u, outOfReset s t = .next u := by
  unfold outOfReset
  split
  · exact ⟨s, rfl⟩
  · exact ⟨t, rfl⟩

/-- A fetch fails only at an address outside the frame store (R1). -/
theorem fetch_cases (s : State) (a n : Nat) :
    (∃ bs, s.fetch a n = .ok bs) ∨ s.fetch a n = .error (.outsideFrameStore a) := by
  unfold State.fetch
  split
  · exact .inl ⟨_, rfl⟩
  · exact .inr rfl

/-- READ_LINE answers, or its line lies outside the frame store, which no well kept page allows. -/
theorem readLine_answers_or (g : PageNo) (index offset count : Nat) (s : State) :
    (readLine g index offset count s).Answers ∨
      (∃ a, readLine g index offset count s = .stop (.outsideFrameStore a)) ∧ ¬ PagesWellKept s := by
  unfold readLine
  dsimp only
  split_ifs with outside long
  · exact .inl trivial
  · exact .inl trivial
  · have line : PagesWellKept s → s.fetch (lineAddress s g index + offset) count = .ok _ := fun kept =>
      fetch_of_line (kept g).1 (Nat.not_lt.1 long)
    obtain ⟨bs, read⟩ | failed := fetch_cases s (lineAddress s g index + offset) count
    · rw [read]
      exact .inl trivial
    · rw [failed] at line ⊢
      exact .inr ⟨⟨_, rfl⟩, fun kept => nomatch line kept⟩

theorem pageLinePayload_ok_or (s : State) (e : Egress) (g : PageNo) (k : Nat) :
    (∃ bs, pageLinePayload s e g k = .ok bs) ∨
      (∃ a, pageLinePayload s e g k = .error (.outsideFrameStore a)) ∧ ¬ PagesWellKept s := by
  unfold pageLinePayload
  dsimp only
  split_ifs
  · have line := fun kept : PagesWellKept s =>
      fetch_of_line (index := k) (offset := 0) (kept g).1
        (count := min ((s.page g).directory.getD k 0) e.timing.lineBytes) (by omega)
    obtain ⟨bs, read⟩ | failed :=
      fetch_cases s (lineAddress s g k) (min ((s.page g).directory.getD k 0) e.timing.lineBytes)
    · rw [read]
      exact .inl ⟨_, rfl⟩
    · rw [Nat.add_zero, failed] at line
      rw [failed]
      exact .inr ⟨⟨_, rfl⟩, fun kept => nomatch line kept⟩
  · exact .inl ⟨_, rfl⟩

theorem linePayload_ok_or (s : State) (e : Egress) (k : Nat) :
    (∃ bs, linePayload s e k = .ok bs) ∨
      (∃ a, linePayload s e k = .error (.outsideFrameStore a)) ∧ ¬ PagesWellKept s := by
  unfold linePayload
  split
  · exact pageLinePayload_ok_or ..
  · exact .inl ⟨_, rfl⟩
  · exact .inl ⟨_, rfl⟩

/-- The packets of a frame line are at hand, or its line lies outside the frame store, which no well kept page
allows. -/
theorem frameLinePackets_ok_or (s : State) (e : Egress) (n : Nat) :
    (∃ packets, frameLinePackets s e n = .ok packets) ∨
      (∃ a, frameLinePackets s e n = .error (.outsideFrameStore a)) ∧ ¬ PagesWellKept s := by
  unfold frameLinePackets
  split_ifs
  · obtain ⟨bs, built⟩ | ⟨⟨a, failed⟩, notKept⟩ := linePayload_ok_or s e (n - e.timing.backPorch)
    · rw [built]
      exact .inl ⟨_, rfl⟩
    · rw [failed]
      exact .inr ⟨⟨a, rfl⟩, notKept⟩
  · exact .inl ⟨_, rfl⟩

/-- Every event has a next state, but READ_LINE and EGRESS_LINE where a page record is not well kept. -/
theorem exec_total (c : Instr) (s : State) :
    (∃ t, exec c s = .next t) ∨
      (∃ a, exec c s = .fault (.outsideFrameStore a)) ∧ ¬ PagesWellKept s ∧
        ((∃ p b i o n, c = .readLine p b i o n) ∨ ∃ p, c = .egressLine p) := by
  cases c with
  | readLine p sel i o n =>
    change (∃ t, execReadLine p sel i o n s = _) ∨ (∃ a, execReadLine p sel i o n s = _) ∧ _
    unfold execReadLine
    split
    · exact .inl (onLink_of_answers trivial)
    · split
      · split
        · exact .inl (onLink_of_answers trivial)
        · next g _ =>
          obtain answers | ⟨⟨a, stops⟩, notKept⟩ := readLine_answers_or g i.toNat o.toNat n.toNat s
          · exact .inl (onLink_of_answers answers)
          · rw [stops]
            unfold onLink
            split
            · exact .inl ⟨s, rfl⟩
            · exact .inr ⟨⟨a, rfl⟩, notKept, .inl ⟨p, sel, i, o, n, rfl⟩⟩
      · exact .inl (onLink_of_answers trivial)
  | egressLine p =>
    change (∃ t, execEgressLine p s = _) ∨ (∃ a, execEgressLine p s = _) ∧ _
    unfold execEgressLine
    dsimp only
    split
    · exact .inl (exists_next_outOfReset ..)
    · next n _ =>
      obtain ⟨packets, sent⟩ | ⟨⟨a, failed⟩, notKept⟩ := frameLinePackets_ok_or s (s.egress p) n
      · rw [sent]
        exact .inl (exists_next_outOfReset ..)
      · rw [failed]
        dsimp only
        split
        · exact .inl ⟨s, rfl⟩
        · exact .inr ⟨⟨a, rfl⟩, notKept, .inr ⟨p, rfl⟩⟩
  | readId p => exact .inl (onLink_of_answers trivial)
  | readTime p => exact .inl (onLink_of_answers trivial)
  | resetPort p => exact .inl (onLink_of_answers trivial)
  | openStream p =>
    refine .inl (onLink_of_answers ?_)
    split
    · exact answers_ite (answers_openStream ..) trivial
    · trivial
  | setStream p =>
    refine .inl (onLink_of_answers ?_)
    split
    · trivial
    · refine answers_ite ?_ trivial
      split
      · trivial
      · exact answers_setStream ..
  | closeStream p =>
    refine .inl (onLink_of_answers ?_)
    split
    · trivial
    · split <;> trivial
  | lockStream p =>
    refine .inl (onLink_of_answers ?_)
    split
    · trivial
    · split <;> trivial
  | queryStream p => exact .inl (onLink_of_answers (by split <;> trivial))
  | setTiming p =>
    refine .inl (onLink_of_answers ?_)
    split
    · trivial
    · exact answers_unlessLocked trivial
  | startEgress p => exact .inl (onLink_of_answers (answers_unlessLocked (answers_ite trivial trivial)))
  | stopEgress p => exact .inl (onLink_of_answers (answers_unlessLocked trivial))
  | setTracking p =>
    refine .inl (onLink_of_answers ?_)
    split
    · trivial
    · exact answers_unlessLocked trivial
  | trackNow p => exact .inl (onLink_of_answers (answers_unlessLocked (answers_ite trivial trivial)))
  | subscribe p =>
    refine .inl (onLink_of_answers ?_)
    split
    · trivial
    · exact answers_unlessLocked (answers_ite trivial trivial)
  | follow p =>
    refine .inl (onLink_of_answers ?_)
    split
    · trivial
    · exact answers_ite trivial (answers_unlessLocked (answers_ite trivial (answers_ite trivial trivial)))
  | detach p => exact .inl (onLink_of_answers (answers_unlessLocked trivial))
  | freeze p => exact .inl (onLink_of_answers (answers_unlessLocked trivial))
  | thaw p => exact .inl (onLink_of_answers (answers_unlessLocked trivial))
  | setFallback p =>
    refine .inl (onLink_of_answers ?_)
    split
    · exact answers_unlessLocked trivial
    · trivial
  | lockEgress p => exact .inl (onLink_of_answers (answers_ite trivial (answers_unlessLocked trivial)))
  | queryEgress p => exact .inl (onLink_of_answers (by split <;> trivial))
  | pinPage p =>
    refine .inl (onLink_of_answers ?_)
    split
    · trivial
    · exact answers_ite trivial (answers_pinPage ..)
  | pinNewest p =>
    refine .inl (onLink_of_answers ?_)
    split
    · trivial
    · refine answers_ite trivial (answers_ite trivial ?_)
      split
      · trivial
      · exact answers_pinPage ..
  | unpin p => exact .inl (onLink_of_answers trivial)
  | readMeta p =>
    refine .inl (onLink_of_answers ?_)
    split
    · trivial
    · split <;> trivial
  | queryPage p => exact .inl (onLink_of_answers (by split <;> trivial))
  | queryIngress p => exact .inl (onLink_of_answers (by split <;> trivial))
  | writePattern p =>
    refine .inl (onLink_of_answers ?_)
    split
    · exact answers_ite trivial (answers_ite trivial trivial)
    · trivial
  | lockPattern p =>
    refine .inl (onLink_of_answers ?_)
    split
    · trivial
    · exact answers_ite trivial (answers_ite trivial trivial)
  | readPattern p => exact .inl (onLink_of_answers (by split <;> trivial))
  | readNotices p => exact .inl (onLink_of_answers trivial)
  | setMask p => exact .inl (onLink_of_answers (answers_ite trivial trivial))
  | setWatch p => exact .inl (onLink_of_answers (by split <;> trivial))
  | clearWatch p => exact .inl (onLink_of_answers trivial)
  | badCommand p => exact .inl (onLink_of_answers trivial)
  | powerOnReset => exact .inl ⟨_, rfl⟩
  | partReset => exact .inl ⟨_, rfl⟩
  | resetEnd => exact .inl ⟨_, rfl⟩
  | cfgholdChange b => exact .inl ⟨_, rfl⟩
  | _ => exact .inl (exists_next_outOfReset ..)

/-- Settles O2: `exec_total`, whose fault excludes well kept page records. -/
theorem onlyFrameStoreReadsCanStop : Obligations.OnlyFrameStoreReadsCanStop :=
  ⟨fun c s => (exec_total c s).imp_right fun ⟨fault, _, reads⟩ => ⟨fault, reads⟩,
    fun c s kept => (exec_total c s).resolve_right fun ⟨_, notKept, _⟩ => notKept kept⟩

/-! ### Resets (R171) -/

/-- In a reset the events of the links, the lanes and the timers have no effect. -/
theorem exec_of_inReset {c : Instr} {s : State} (inReset : s.inReset.isSome = true) (notReset : ¬ isReset c)
    (notEnd : c ≠ .resetEnd) (notHold : ∀ b, c ≠ .cfgholdChange b) : exec c s = .next s := by
  cases c with
  | powerOnReset => exact absurd (.inl rfl) notReset
  | partReset => exact absurd (.inr rfl) notReset
  | resetEnd => exact absurd rfl notEnd
  | cfgholdChange b => exact absurd rfl (notHold b)
  | egressLine p =>
    change execEgressLine p s = _
    unfold execEgressLine
    dsimp only
    split
    · exact outOfReset_inReset inReset _
    · split
      · exact outOfReset_inReset inReset _
      · exact if_pos inReset
  | transactionDiscarded p => exact outOfReset_inReset inReset _
  | frameStart p => exact outOfReset_inReset inReset _
  | line p => exact outOfReset_inReset inReset _
  | sideband p => exact outOfReset_inReset inReset _
  | frameEnd p => exact outOfReset_inReset inReset _
  | formatError p => exact outOfReset_inReset inReset _
  | laneDown p => exact outOfReset_inReset inReset _
  | laneUp p => exact outOfReset_inReset inReset _
  | stallTimerExpiry st => exact outOfReset_inReset inReset _
  | flip p => exact outOfReset_inReset inReset _
  | timeBaseTick n => exact outOfReset_inReset inReset _
  | _ => exact onLink_inReset inReset _

/-- Settles O3. -/
theorem eventsInResetChangeNothing : Obligations.EventsInResetChangeNothing := fun _ _ => exec_of_inReset

/-- Settles O4: both resets leave every record at its reset value (`AtReset`); the frame store and the pattern library
are what tells them apart. -/
theorem resetsLeaveTheResetValues : Obligations.ResetsLeaveTheResetValues := by
  intro c s reset
  have values : ∀ t, AtReset t →
      t.freeList = allPages ∧ (∀ g, t.page g = Page.cleared) ∧ (∀ st, t.stream st = Stream.initial) ∧
        (∀ p, t.capture p = Capture.initial) ∧ (∀ p, t.egress p = Egress.initial) ∧
        ∀ p, t.pin p = none ∧ t.notice p = NoticeUnit.initial ∧ t.link p = none :=
    fun t h => ⟨h.freeList, h.page, h.stream, h.capture, h.egress, fun p => ⟨h.pin p, h.notice p, h.link p⟩⟩
  obtain rfl | rfl := reset
  · obtain ⟨free, page, stream, capture, egress, ports⟩ := values _ (atReset_powerOn s)
    exact ⟨s.powerOn, rfl, by simp [State.powerOn], rfl, rfl, rfl, free, page, stream, capture, egress, ports,
      fun _ => ⟨rfl, State.reset_pattern⟩, nofun⟩
  · obtain ⟨free, page, stream, capture, egress, ports⟩ := values _ (atReset_partReset s)
    exact ⟨s.partReset, rfl, by simp [State.partReset], rfl, rfl, rfl, free, page, stream, capture, egress, ports,
      nofun, fun _ => ⟨rfl, fun _ => rfl⟩⟩

/-- Settles O5: CFGHOLD and the end of a reset are one field each; a tick advances the time base and, by
`Table.get_map`, every timer. -/
theorem holdResetEndAndTime : Obligations.HoldResetEndAndTime := by
  refine fun s b n => ⟨rfl, rfl, fun out => ⟨(advanceTime n s).streams, outOfReset_taken out _, fun st => ?_⟩⟩
  have advanced : Table.get (advanceTime n s).streams st =
      { s.stream st with timer := (s.stream st).timer.advance n } := Table.get_map ..
  refine advanced.trans ?_
  cases (s.stream st).timer <;> rfl

/-! ### Answers (R166, R167) -/

/-- Settles O11: what a command leaves with a status other than OK is a refusal on its link (`exec_leaves`). -/
theorem refusedCommandsChangeNothing : Obligations.RefusedCommandsChangeNothing := by
  refine ⟨fun c p s t a out notDiscarded link run answer notOk => ?_, fun p s out =>
    ⟨onLink_taken out _, outOfReset_taken out _⟩⟩
  cases exec_leaves run with
  | nothing idle =>
    obtain inReset | offLink := idle
    · simp [out] at inReset
    · simp [link] at offLink
  | @refusal q st other =>
    obtain rfl : p = q := by simpa [link] using other
    rw [State.setLink_link_self] at answer
    cases answer
    rfl
  | @answer q u b other _ ok =>
    obtain rfl : p = q := by simpa [link] using other
    rw [State.setLink_link_self] at answer
    cases answer
    exact absurd ok notOk
  | event offLink => simp [link] at offLink
  | @discarded q discards =>
    subst discards
    obtain rfl : q = p := by simpa [linkPort] using link
    exact absurd rfl notDiscarded

/-- A reading command that passes its tests leaves the state as it was. -/
theorem Effect.of_reading {c : Instr} {s u : State} (h : Effect s c u) (reading : isReading c) : u = s := by
  cases h with
  | read => rfl
  | formatError fails =>
    cases c
    case readId => exact fails.elim
    case readTime => exact fails.elim
    case queryStream => exact fails.elim
    case queryEgress => exact fails.elim
    case queryPage => exact fails.elim
    case queryIngress => exact fails.elim
    case readLine => exact fails.elim
    case readMeta => exact fails.elim
    case readPattern => exact fails.elim
    all_goals exact reading.elim
  | _ => exact reading.elim

/-- Settles O12: a reading command leaves its answer or its refusal on its own link, and nothing else. -/
theorem readingCommandsChangeOnlyTheirLink : Obligations.ReadingCommandsChangeOnlyTheirLink := by
  intro c s t p out reads run
  have named : linkPort c = some p ∧ isReading c ∧ ∀ q, c ≠ .transactionDiscarded q := by
    obtain rfl | rfl | ⟨b, rfl⟩ | ⟨b, rfl⟩ | ⟨b, rfl⟩ | ⟨b, rfl⟩ | ⟨b, rfl⟩ | ⟨b, rfl⟩ | ⟨b, i, o, n, rfl⟩ := reads
    all_goals exact ⟨rfl, trivial, nofun⟩
  obtain ⟨link, reading, notDiscarded⟩ := named
  cases exec_leaves run with
  | nothing idle =>
    obtain inReset | offLink := idle
    · simp [out] at inReset
    · simp [link] at offLink
  | @refusal q st other =>
    obtain rfl : p = q := by simpa [link] using other
    exact ⟨_, rfl⟩
  | @answer q u b other effect _ =>
    obtain rfl : p = q := by simpa [link] using other
    exact ⟨b, by rw [effect.of_reading reading]⟩
  | event offLink => simp [link] at offLink
  | discarded discards => exact absurd discards (notDiscarded _)

end Sys2Proof.Machine

/-! The wire formats (R166, R167, R172, R173): a transaction and a lane packet are read back as what they spell, and
what the command table does not have is a BAD_COMMAND. -/

namespace Sys2Proof.Machine

/-! ### Fields of several bytes (R173) -/

@[simp] theorem word16_be16 (w : Word16) : word16 (w.extractLsb' 8 8) (w.extractLsb' 0 8) = w := by
  unfold word16
  rw [BitVec.extractLsb'_append_extractLsb'_eq_extractLsb' (by decide)]
  simp

@[simp] theorem word32_be32 (w : Word32) :
    word32 (w.extractLsb' 24 8) (w.extractLsb' 16 8) (w.extractLsb' 8 8) (w.extractLsb' 0 8) = w := by
  unfold word32
  rw [BitVec.extractLsb'_append_extractLsb'_eq_extractLsb' (by decide),
    BitVec.extractLsb'_append_extractLsb'_eq_extractLsb' (by decide),
    BitVec.extractLsb'_append_extractLsb'_eq_extractLsb' (by decide)]
  simp

/-! ### Transactions (R166, R167) -/

/-- A transaction with all its argument bytes is the command they spell, whatever follows. -/
theorem decodeTransaction_of_complete (p : Port) (code length : Byte) {args : List Byte} (extra : List Byte)
    (complete : args.length = length.toNat) :
    decodeTransaction p (code :: length :: (args ++ extra)) = decodeCommand p code args := by
  have enough : length.toNat ≤ (args ++ extra).length := by
    rw [List.length_append]
    omega
  have taken : (args ++ extra).take length.toNat = args := by
    rw [← complete, List.take_left']
    rfl
  exact (if_pos enough).trans (congrArg (decodeCommand p code) taken)

theorem decodeTransaction_transactionBytes (p : Port) (code : Byte) {args : List Byte} (extra : List Byte)
    (short : args.length ≤ 255) :
    decodeTransaction p (transactionBytes code args ++ extra) = decodeCommand p code args := by
  refine decodeTransaction_of_complete p code _ extra ?_
  rw [toNat_ofNat_of_lt (by omega)]

theorem decodeCommand_setFallback (p : Port) (a e : Byte) (fill : Vector Byte 4) :
    decodeCommand p 0x2A#8 (a :: e :: fill.toList) = .setFallback p a e fill := by
  obtain ⟨⟨bytes⟩, four⟩ := fill
  match bytes, four with
  | [_, _, _, _], _ => rfl

theorem decodeCommand_of_colours (p : Port) (e k bs bc : Byte) (w : Word16) (colours : Vector Byte 16) :
    decodeCommand p 0x40#8 ([e, k, bs, bc] ++ be16 w ++ colours.toList) = .writePattern p e k bs bc w colours := by
  have sixteen : colours.toList.length = 16 := by simp
  have spelled : decodeCommand p 0x40#8 ([e, k, bs, bc] ++ be16 w ++ colours.toList) =
      decodeWritePattern p e k bs bc (w.extractLsb' 8 8) (w.extractLsb' 0 8) colours.toList := rfl
  rw [spelled, decodeWritePattern, dif_pos sixteen, word16_be16]
  rfl

/-- The argument bytes of each command are few, and are read back field by field. -/
theorem decodeCommand_of_encoded {c : Instr} {p : Port} {code : Byte} {args : List Byte}
    (sent : encodeCommand c = some (p, code, args)) : args.length ≤ 255 ∧ decodeCommand p code args = c := by
  cases c with
  | setFallback p a e fill => cases sent; exact ⟨by simp, decodeCommand_setFallback p a e fill⟩
  | writePattern p e k bs bc w colours =>
    cases sent
    exact ⟨by simp [be16], decodeCommand_of_colours p e k bs bc w colours⟩
  | openStream p st pp tg md q l t =>
    cases sent
    refine ⟨by simp [be16], ?_⟩
    conv_rhs => rw [← word16_be16 l, ← word16_be16 t]
    rfl
  | setStream p st q l t =>
    cases sent
    refine ⟨by simp [be16], ?_⟩
    conv_rhs => rw [← word16_be16 l, ← word16_be16 t]
    rfl
  | setTiming p lp a b f t n tg =>
    cases sent
    refine ⟨by simp [be16], ?_⟩
    conv_rhs => rw [← word16_be16 lp, ← word16_be16 a, ← word16_be16 t, ← word16_be16 n]
    rfl
  | readLine p sel i o n =>
    cases sent
    refine ⟨by simp [be16], ?_⟩
    conv_rhs => rw [← word16_be16 i, ← word16_be16 o, ← word16_be16 n]
    rfl
  | setMask p m =>
    cases sent
    refine ⟨by simp [be16], ?_⟩
    conv_rhs => rw [← word16_be16 m]
    rfl
  | setWatch p st w =>
    cases sent
    refine ⟨by simp [be32], ?_⟩
    conv_rhs => rw [← word32_be32 w]
    rfl
  | _ => cases sent <;> exact ⟨Nat.le_of_ble_eq_true rfl, rfl⟩

/-- Settles O6. -/
theorem sentCommandsAreDecodedBack : Obligations.SentCommandsAreDecodedBack := by
  intro c p code args extra sent
  obtain ⟨short, back⟩ := decodeCommand_of_encoded sent
  rw [decodeTransaction_transactionBytes p code extra short, back]

/-- A function of a list that is `b` at every list shorter and at every list longer than `n`. -/
theorem eq_of_length_ne {n : Nat} {f : List Byte → Instr} {b : Instr}
    (short : ∀ m < n, ∀ g : Fin m → Byte, f (List.ofFn g) = b)
    (long : ∀ (g : Fin n → Byte) (a : Byte) (rest : List Byte), f (List.ofFn g ++ a :: rest) = b) {args : List Byte}
    (wrong : args.length ≠ n) : f args = b := by
  obtain less | more := Nat.lt_or_gt_of_ne wrong
  · have named := short args.length less args.get
    rwa [List.ofFn_get] at named
  · have first : List.ofFn (fun i : Fin n => args[i.val]) = args.take n :=
      List.ext_getElem (by simp; omega) fun i _ _ => by simp
    have split : args = args.take n ++ args[n] :: args.drop (n + 1) := by
      rw [← List.drop_eq_getElem_cons more, List.take_append_drop]
    rw [split, ← first]
    exact long _ _ _

theorem decodeCommand_of_unknown_code {code : Byte} (p : Port) (args : List Byte)
    (unknown : ∀ row ∈ commandTable, code.toNat ≠ row.1.toNat) : decodeCommand p code args = .badCommand p := by
  -- The tests of the codes are taken one after another; `split` on all of them exceeds the recursion depth.
  simp [commandTable] at unknown
  delta decodeCommand decodeCommand.match_1
  simp only [unknown, dite_false]

theorem decodeWritePattern_of_wrong_length (p : Port) (e k bs bc w1 w0 : Byte) {colours : List Byte}
    (wrong : colours.length ≠ 16) : decodeWritePattern p e k bs bc w1 w0 colours = .badCommand p := dif_neg wrong

theorem decodeCommand_writePattern (p : Port) (args : List Byte) :
    decodeCommand p 0x40#8 args = .badCommand p ↔ args.length ≠ 22 := by
  match args with
  | e :: k :: bs :: bc :: w1 :: w0 :: colours =>
    change decodeWritePattern p e k bs bc w1 w0 colours = _ ↔ _
    unfold decodeWritePattern
    split <;> simp_all
  | [] => exact iff_of_true rfl (by simp)
  | [_] => exact iff_of_true rfl (by simp)
  | [_, _] => exact iff_of_true rfl (by simp)
  | [_, _, _] => exact iff_of_true rfl (by simp)
  | [_, _, _, _] => exact iff_of_true rfl (by simp)
  | [_, _, _, _, _] => exact iff_of_true rfl (by simp)

/-- The arguments of a row of the table have the length the row gives, or the command is a BAD_COMMAND. -/
theorem decodeCommand_of_wrong_length (p : Port) : ∀ row ∈ commandTable, ∀ args : List Byte, args.length ≠ row.2.1 →
    decodeCommand p row.1 args = .badCommand p := by
  have pattern : ∀ args : List Byte, args.length ≠ 22 → decodeCommand p 0x40#8 args = .badCommand p := fun args =>
    (decodeCommand_writePattern p args).2
  simp only [commandTable, List.cons_append, List.nil_append, List.forall_mem_cons]
  refine ⟨?_, ?_, ?_, ?_, ?_, ?_, ?_, ?_, ?_, ?_, ?_, ?_, ?_, ?_, ?_, ?_, ?_, ?_, ?_, ?_, ?_, ?_, ?_, ?_, ?_, ?_, ?_,
    ?_, pattern, ?_, ?_, ?_, ?_, ?_, ?_, nofun⟩
  all_goals
    refine fun args => eq_of_length_ne (fun m low g => ?_) fun _ _ _ => rfl
    interval_cases m <;> rfl

/-- Arguments of the length the row gives spell the row's command. -/
theorem decodeCommand_of_row (p : Port) : ∀ row ∈ commandTable, ∀ g : Fin row.2.1 → Byte,
    decodeCommand p row.1 (List.ofFn g) ≠ .badCommand p := by
  have pattern : ∀ g : Fin 22 → Byte, decodeCommand p 0x40#8 (List.ofFn g) ≠ .badCommand p := fun g bad =>
    (decodeCommand_writePattern p _).1 bad (List.length_ofFn ..)
  simp only [commandTable, List.cons_append, List.nil_append, List.forall_mem_cons]
  exact ⟨nofun, nofun, nofun, nofun, nofun, nofun, nofun, nofun, nofun, nofun, nofun, nofun, nofun, nofun, nofun, nofun,
    nofun, nofun, nofun, nofun, nofun, nofun, nofun, nofun, nofun, nofun, nofun, nofun, pattern, nofun, nofun, nofun,
    nofun, nofun, nofun, nofun⟩

theorem inCommandTable_iff (code : Byte) (n : Nat) :
    inCommandTable code n = true ↔ ∃ row ∈ commandTable, row.1 = code ∧ row.2.1 = n := by
  simp [inCommandTable]

/-- A taken command is a BAD_COMMAND exactly when its code and length are no row of the table (R167). -/
theorem decodeCommand_eq_badCommand_iff (p : Port) (code : Byte) (args : List Byte) :
    decodeCommand p code args = .badCommand p ↔ inCommandTable code args.length = false := by
  constructor
  · refine fun bad => Bool.eq_false_iff.2 fun listed => ?_
    obtain ⟨row, mem, rfl, length⟩ := (inCommandTable_iff ..).1 listed
    have spelled := decodeCommand_of_row p row mem
    rw [length] at spelled
    refine spelled args.get ?_
    rwa [List.ofFn_get]
  · intro unlisted
    by_cases known : ∃ row ∈ commandTable, row.1 = code
    · obtain ⟨row, mem, rfl⟩ := known
      refine decodeCommand_of_wrong_length p row mem args fun length => ?_
      have listed := (inCommandTable_iff row.1 args.length).2 ⟨row, mem, rfl, length.symm⟩
      rw [unlisted] at listed
      cases listed
    · exact decodeCommand_of_unknown_code p args fun row mem same => known ⟨row, mem, (BitVec.eq_of_toNat_eq same).symm⟩

/-- Settles O8. -/
theorem transactionsOutsideTheTable : Obligations.TransactionsOutsideTheTable := by
  refine fun p code length args => ⟨fun complete => ?_, fun short => ?_, rfl, rfl⟩
  · have taken := decodeTransaction_of_complete p code length [] complete
    rw [List.append_nil] at taken
    rw [taken]
    exact decodeCommand_eq_badCommand_iff p code args
  · exact if_neg (Nat.not_le.2 short)

/-- Settles O9: each word is decoded. -/
theorem wireBytesSpellTheirCommands : Obligations.WireBytesSpellTheirCommands := by
  unfold Obligations.WireBytesSpellTheirCommands
  decide

/-! ### Lane packets (R172) -/

theorem kindTagByte_fields (kind : BitVec 4) (tag : Tag) :
    (kindTagByte kind tag).extractLsb' 4 4 = kind ∧ (kindTagByte kind tag).extractLsb' 2 2 = 0#2 ∧
      tagOfByte (kindTagByte kind tag) = tag := by
  revert kind tag
  decide

theorem byteSum_append_neg (bs : List Byte) : byteSum (bs ++ [-byteSum bs]) = 0#8 := by
  have sum : byteSum (bs ++ [-byteSum bs]) = byteSum bs + -byteSum bs := by simp [byteSum]
  rw [sum, BitVec.add_right_neg]

theorem splitBody_append (payload : List Byte) (check : Word16) :
    splitBody payload.length (payload ++ be16 check) = some (payload, check) := by
  simp [splitBody, be16]

/-- The packet's fields are read back from its header and body. -/
theorem parseFields_of_bytes {k : LanePacket} (inRange : k.inRange = true) :
    ∃ first rest, k.bytes = first :: rest ∧ first.extractLsb' 2 2 = 0#2 ∧
      k.bytes.take (headerLength first) = k.headerFields ++ [-byteSum k.headerFields] ∧
      parseFields first rest = some k := by
  cases k with
  | frameStart tag kind number =>
    obtain ⟨kindIs, reserved, tagIs⟩ := kindTagByte_fields 1#4 tag
    refine ⟨_, _, rfl, reserved, ?_, ?_⟩
    · simp [headerLength, kindIs, LanePacket.bytes, LanePacket.headerFields, LanePacket.body, be16]
    · simp [parseFields, kindIs, tagIs, be16, LanePacket.body]
  | line tag number payload check =>
    obtain ⟨kindIs, reserved, tagIs⟩ := kindTagByte_fields 2#4 tag
    obtain ⟨-, -, high⟩ := (lineInRange_iff ..).1 inRange
    have length : (BitVec.ofNat 16 payload.length).toNat = payload.length := toNat_ofNat_of_lt (by omega)
    refine ⟨_, _, rfl, reserved, ?_, ?_⟩
    · simp [headerLength, kindIs, LanePacket.bytes, LanePacket.headerFields, LanePacket.body, be16]
    · have body := splitBody_append payload check
      simp only [be16] at body
      simp [parseFields, kindIs, tagIs, be16, LanePacket.body, length, body]
  | sideband tag payload check =>
    obtain ⟨kindIs, reserved, tagIs⟩ := kindTagByte_fields 3#4 tag
    obtain ⟨-, high⟩ := (sidebandInRange_iff _).1 inRange
    have length : (BitVec.ofNat 8 payload.length).toNat = payload.length := toNat_ofNat_of_lt (by omega)
    refine ⟨_, _, rfl, reserved, ?_, ?_⟩
    · simp [headerLength, kindIs, LanePacket.bytes, LanePacket.headerFields, LanePacket.body, be16]
    · have body := splitBody_append payload check
      simp only [be16] at body
      simp [parseFields, kindIs, tagIs, be16, LanePacket.body, length, body]
  | frameEnd tag status claimed =>
    obtain ⟨kindIs, reserved, tagIs⟩ := kindTagByte_fields 4#4 tag
    refine ⟨_, _, rfl, reserved, ?_, ?_⟩
    · simp [headerLength, kindIs, LanePacket.bytes, LanePacket.headerFields, LanePacket.body, be16]
    · simp [parseFields, kindIs, tagIs, be16, LanePacket.body]

/-- Settles O7. -/
theorem lanePacketsParseBack : Obligations.LanePacketsParseBack := by
  intro k inRange
  obtain ⟨first, rest, bytes, reserved, header, fields⟩ := parseFields_of_bytes inRange
  have checked : byteSum ((first :: rest).take (headerLength first)) = 0#8 := by
    rw [← bytes, header, byteSum_append_neg]
  rw [bytes, LanePacket.parse, if_pos ⟨reserved, checked⟩, fields]
  simp [inRange]

end Sys2Proof.Machine

/-! The commands of the stream table's owner, of the egress settings, the stall timer, raises, and packets outside a
frame (R30 to R32, R38, R40, R41, R49, R51, R63, R64, R101, R110, R111, R128 to R130, R156). -/

namespace Sys2Proof.Machine

/-! ### The tests of R30 -/

section ownerTests

variable {p : Port} {st : StreamNo} {lockTested : Bool} {s : State}

theorem ownerTests_of_hold (hold : s.cfgHold = true) : ownerTests p st lockTested s = some .denied := if_pos hold

theorem ownerTests_of_not_open (noHold : s.cfgHold = false) (notOpen : (s.stream st).state.isOpen = false) :
    ownerTests p st lockTested s = some .badState := by
  simp [ownerTests, noHold, notOpen]

theorem ownerTests_of_other (noHold : s.cfgHold = false) (isOpen : (s.stream st).state.isOpen = true)
    (other : (s.stream st).owner ≠ some p) : ownerTests p st lockTested s = some .denied := by
  simp [ownerTests, noHold, isOpen, other]

theorem ownerTests_of_locked (noHold : s.cfgHold = false) (isOpen : (s.stream st).state.isOpen = true)
    (owner : (s.stream st).owner = some p) (lock : (s.stream st).lock = true) :
    ownerTests p st true s = some .denied := by
  simp [ownerTests, noHold, isOpen, owner, lock]

theorem ownerTests_of_passed (noHold : s.cfgHold = false) (isOpen : (s.stream st).state.isOpen = true)
    (owner : (s.stream st).owner = some p) (unlocked : lockTested = true → (s.stream st).lock = false) :
    ownerTests p st lockTested s = none := by
  cases lockTested with
  | false => simp [ownerTests, noHold, isOpen, owner]
  | true => simp [ownerTests, noHold, isOpen, owner, unlocked rfl]

end ownerTests

section ownerCommands

variable {p : Port} {stream quota : Byte} {lines timeout : Word16} {s : State} {st : StreamNo}

/-- A command of a stream's owner whose arguments are in range, and whether it tests the lock. -/
inductive OwnerCommand (p : Port) (st : StreamNo) : Instr → Bool → Prop
  | setStream {b q : Byte} {lines timeout : Word16} : b.toNat = st.val →
      streamValuesInRange q lines timeout = true → OwnerCommand p st (.setStream p b q lines timeout) true
  | closeStream {b : Byte} : b.toNat = st.val → OwnerCommand p st (.closeStream p b) true
  | lockStream {b : Byte} : b.toNat = st.val → OwnerCommand p st (.lockStream p b) false

/-- A test of R30 that fails refuses the command. -/
theorem OwnerCommand.exec_of_refused {c : Instr} {lockTested : Bool} {r : Status} (h : OwnerCommand p st c lockTested)
    (out : s.inReset = none) (refused : ownerTests p st lockTested s = some r) :
    exec c s = .next (s.refusedWith p r) := by
  cases h with
  | setStream hst values =>
    change execSetStream _ _ _ _ _ _ = _
    simp only [execSetStream, onLink_taken out, argBelow_eq_some_iff.2 hst, if_pos values, refused]
    rfl
  | closeStream hst =>
    change execCloseStream _ _ _ = _
    simp only [execCloseStream, onLink_taken out, argBelow_eq_some_iff.2 hst, refused]
    rfl
  | lockStream hst =>
    change execLockStream _ _ _ = _
    simp only [execLockStream, onLink_taken out, argBelow_eq_some_iff.2 hst, refused]
    rfl

theorem exec_setStream_of_unnamed (out : s.inReset = none) (tooHigh : 8 ≤ stream.toNat) :
    exec (.setStream p stream quota lines timeout) s = .next (s.refusedWith p .badArg) := by
  change execSetStream _ _ _ _ _ _ = _
  simp only [execSetStream, onLink_taken out, argBelow_eq_none_iff.2 tooHigh]
  rfl

theorem exec_setStream_of_outOfRange (out : s.inReset = none)
    (bad : quota.toNat = 0 ∨ 8 < quota.toNat ∨ 4095 < lines.toNat ∨ 4095 < timeout.toNat) :
    exec (.setStream p stream quota lines timeout) s = .next (s.refusedWith p .badArg) := by
  have values : streamValuesInRange quota lines timeout ≠ true := fun inRange => by
    have := (streamValuesInRange_iff ..).1 inRange
    omega
  change execSetStream _ _ _ _ _ _ = _
  rw [execSetStream, onLink_taken out]
  split
  · rfl
  · rw [if_neg values]
    rfl

theorem exec_closeStream_of_unnamed (out : s.inReset = none) (tooHigh : 8 ≤ stream.toNat) :
    exec (.closeStream p stream) s = .next (s.refusedWith p .badArg) := by
  change execCloseStream _ _ _ = _
  simp only [execCloseStream, onLink_taken out, argBelow_eq_none_iff.2 tooHigh]
  rfl

theorem exec_lockStream_of_unnamed (out : s.inReset = none) (tooHigh : 8 ≤ stream.toNat) :
    exec (.lockStream p stream) s = .next (s.refusedWith p .badArg) := by
  change execLockStream _ _ _ = _
  simp only [execLockStream, onLink_taken out, argBelow_eq_none_iff.2 tooHigh]
  rfl

theorem isOpen_eq_false_of {state : StreamState} (h : state = .closed ∨ state = .draining) : state.isOpen = false := by
  obtain rfl | rfl := h
  · rfl
  · rfl

end ownerCommands

/-- Settles O18: the argument tests come first, then those of `ownerTests` in its order. -/
theorem ownerCommandsRefuseInOrder : Obligations.OwnerCommandsRefuseInOrder := by
  intro p stream quota lines timeout s c out which
  refine ⟨fun tooHigh => ?_, ?_, fun st hst low high linesHigh timeoutHigh => ?_⟩
  · obtain rfl | rfl | rfl := which
    · exact exec_setStream_of_unnamed out tooHigh
    · exact exec_closeStream_of_unnamed out tooHigh
    · exact exec_lockStream_of_unnamed out tooHigh
  · rintro rfl bad
    exact exec_setStream_of_outOfRange out bad
  · have command : ∃ lockTested, OwnerCommand p st c lockTested ∧
        (c ≠ .lockStream p stream → lockTested = true) := by
      have values := (streamValuesInRange_iff quota lines timeout).2 ⟨low, high, linesHigh, timeoutHigh⟩
      obtain rfl | rfl | rfl := which
      · exact ⟨true, .setStream hst values, fun _ => rfl⟩
      · exact ⟨true, .closeStream hst, fun _ => rfl⟩
      · exact ⟨false, .lockStream hst, fun ne => absurd rfl ne⟩
    obtain ⟨lockTested, owned, tested⟩ := command
    refine ⟨fun hold => owned.exec_of_refused out (ownerTests_of_hold hold), fun noHold ended => ?_,
      fun noHold isOpen other => owned.exec_of_refused out (ownerTests_of_other noHold isOpen other),
      fun noHold isOpen owner lock notLock => ?_⟩
    · exact owned.exec_of_refused out (ownerTests_of_not_open noHold (isOpen_eq_false_of ended))
    · obtain rfl := tested notLock
      exact owned.exec_of_refused out (ownerTests_of_locked noHold isOpen owner lock)

/-- Settles O19: past the tests of R30, SET_STREAM tests the page count and the sum, and both write their fields. -/
theorem setStreamAndLockStreamWriteTheirFields : Obligations.SetStreamAndLockStreamWriteTheirFields := by
  intro p stream quota lines timeout s st hst out noHold isOpen owner
  refine ⟨?_, fun unlocked low high linesHigh timeoutHigh => ?_⟩
  · have passed : ownerTests p st false s = none := ownerTests_of_passed noHold isOpen owner nofun
    change execLockStream _ _ _ = _
    simp only [execLockStream, onLink_taken out, argBelow_eq_some_iff.2 hst, passed]
    rfl
  · have passed : ownerTests p st true s = none := ownerTests_of_passed noHold isOpen owner fun _ => unlocked
    have values := (streamValuesInRange_iff quota lines timeout).2 ⟨low, high, linesHigh, timeoutHigh⟩
    have run : exec (.setStream p stream quota lines timeout) s =
        answered p s (setStream st quota.toNat lines.toNat timeout.toNat s) := by
      change execSetStream _ _ _ _ _ _ = _
      simp only [execSetStream, onLink_taken out, argBelow_eq_some_iff.2 hst, if_pos values, passed]
    rw [run]
    refine ⟨fun few => ?_, fun enough more full => ?_, fun enough room => ?_⟩
    · rw [setStream, if_pos few]
      rfl
    · rw [setStream, if_neg (Nat.not_lt.2 enough), if_pos ⟨more, full⟩]
      rfl
    · rw [setStream, if_neg (Nat.not_lt.2 enough), if_neg (by simp only [Config.poolPages]; omega)]
      rfl

/-! ### The stall timer (R40, R41) -/

/-- Settles O21: an expiry is taken at a count of 0 alone, and stalls the stream by `expire_cases`. -/
theorem stallTimerExpiryStallsTheStream : Obligations.StallTimerExpiryStallsTheStream := by
  intro st o s out owner
  have taken : (s.stream st).timer = .running 0 → exec (.stallTimerExpiry st) s = .next (expire st s) := fun ended => by
    change execStallTimerExpiry st s = _
    rw [execStallTimerExpiry, outOfReset_taken out]
    simp only [ended]
  refine ⟨fun ended awake => ?_, fun ended stalled => ?_, fun waits => ?_⟩
  · obtain ⟨-, run⟩ | ⟨notWaiting, notLive, -⟩ := expire_cases st s
    · rw [taken ended, run]
    · exact absurd awake (not_or.2 ⟨notWaiting, notLive⟩)
  · obtain ⟨awake, -⟩ | ⟨-, -, run⟩ := expire_cases st s
    · simp [stalled] at awake
    · rw [taken ended, run]
  · change execStallTimerExpiry st s = _
    rw [execStallTimerExpiry, outOfReset_taken out]
    split
    · next ended => exact absurd ended waits
    · rfl

/-! ### Egress settings (R101, R110, R111, R128 to R130) -/

@[simp] theorem argTracking_code (m : TrackingMode) : argTracking m.code = some m := by cases m <;> rfl

@[simp] theorem argStallAction_code (a : StallAction) : argStallAction a.code = some a := by cases a <;> rfl

theorem argTracking_isSome_iff (b : Byte) : (argTracking b).isSome = true ↔ b.toNat < 3 := by
  unfold argTracking
  split
  case h_4 notZero notOne notTwo =>
    refine iff_of_false (by simp) fun low => ?_
    obtain zero | one | two : b.toNat = 0 ∨ b.toNat = 1 ∨ b.toNat = 2 := by omega
    · exact notZero zero
    · exact notOne one
    · exact notTwo two
  all_goals exact iff_of_true rfl (by omega)

theorem argStallAction_isSome_iff (b : Byte) : (argStallAction b).isSome = true ↔ b.toNat < 3 := by
  unfold argStallAction
  split
  case h_4 notZero notOne notTwo =>
    refine iff_of_false (by simp) fun low => ?_
    obtain zero | one | two : b.toNat = 0 ∨ b.toNat = 1 ∨ b.toNat = 2 := by omega
    · exact notZero zero
    · exact notOne one
    · exact notTwo two
  all_goals exact iff_of_true rfl (by omega)

/-- Settles O29: none of the tests of the command refuses it, and its one field is set. -/
theorem egressSettingsAreStored : Obligations.EgressSettingsAreStored := by
  intro p mode window entry action n fill s out unlocked
  have passes : ∀ r, onLink p s (unlessLocked p s r) = answered p s r := fun r => by
    rw [onLink_taken out, unlessLocked_of_unlocked r unlocked]
  refine ⟨fun running => ?_, fun stopped noStop => ?_, ?_, fun manual => ?_, fun notManual => ?_, passes _, passes _,
    fun hn => ?_, fun noHold => ?_, fun hold => ?_⟩
  · refine (passes _).trans ?_
    simp only [egressOk, State.modEgress_eq, running, decide_true, Bool.true_or]
    rfl
  · have same : { s.egress p with stopPending := decide ((s.egress p).run = .running) || (s.egress p).stopPending } =
        s.egress p := by
      rw [stopped, noStop, ← noStop]
      simp
    refine (passes _).trans ?_
    simp only [egressOk, State.modEgress_eq, same, State.setEgress_same]
    rfl
  · change execSetTracking _ _ _ _ = _
    simp only [execSetTracking, argTracking_code]
    exact passes _
  · refine (passes _).trans ?_
    rw [if_pos manual]
    rfl
  · refine (passes _).trans ?_
    rw [if_neg notManual]
    rfl
  · change execSetFallback _ _ _ _ _ = _
    simp only [execSetFallback, argStallAction_code, argBelow_eq_some_iff.2 hn]
    exact passes _
  · change execLockEgress _ _ = _
    simp only [execLockEgress, noHold, Bool.false_eq_true, if_false]
    exact passes _
  · change execLockEgress _ _ = _
    simp only [execLockEgress, onLink_taken out, hold, if_true]
    rfl

/-- Settles O30: the range tests stand before the lock test, and the lock test before every other. -/
theorem lockedEgressRefusesItsCommands : Obligations.LockedEgressRefusesItsCommands := by
  intro p s out
  refine ⟨fun locked c command => ?_, fun b tooHigh => ?_, fun b w tooHigh => ?_, fun a b f bad => ?_⟩
  · have denied : ∀ r, onLink p s (unlessLocked p s r) = .next (s.refusedWith p .denied) := fun r => by
      rw [onLink_taken out, unlessLocked_of_locked r locked]
      rfl
    obtain rfl | rfl | rfl | rfl | rfl | rfl | rfl | ⟨b, rfl, low⟩ | ⟨b, rfl, low, other⟩ | ⟨b, w, rfl, low⟩ |
      ⟨a, b, f, rfl, lowAction, lowEntry⟩ := command
    · exact denied _
    · exact denied _
    · exact denied _
    · exact denied _
    · exact denied _
    · exact denied _
    · change execLockEgress _ _ = _
      unfold execLockEgress
      split
      · rw [onLink_taken out]
        rfl
      · exact denied _
    · change execSubscribe _ _ _ = _
      simp only [execSubscribe, argBelow_eq_some_iff.2 (show b.toNat = (⟨b.toNat, low⟩ : StreamNo).val from rfl)]
      exact denied _
    · have ne : (⟨b.toNat, low⟩ : Port) ≠ p := fun same => other (congrArg Fin.val same)
      change execFollow _ _ _ = _
      simp only [execFollow, argBelow_eq_some_iff.2 (show b.toNat = (⟨b.toNat, low⟩ : Port).val from rfl), if_neg ne]
      exact denied _
    · obtain ⟨m, named⟩ := Option.isSome_iff_exists.1 ((argTracking_isSome_iff b).2 low)
      change execSetTracking _ _ _ _ = _
      simp only [execSetTracking, named]
      exact denied _
    · obtain ⟨m, named⟩ := Option.isSome_iff_exists.1 ((argStallAction_isSome_iff a).2 lowAction)
      change execSetFallback _ _ _ _ _ = _
      simp only [execSetFallback, named,
        argBelow_eq_some_iff.2 (show b.toNat = (⟨b.toNat, lowEntry⟩ : EntryNo).val from rfl)]
      exact denied _
  · change execSubscribe _ _ _ = _
    simp only [execSubscribe, onLink_taken out, argBelow_eq_none_iff.2 tooHigh]
    rfl
  · have unnamed : argTracking b = none := by
      refine Option.not_isSome_iff_eq_none.1 fun named => ?_
      have := (argTracking_isSome_iff b).1 named
      omega
    change execSetTracking _ _ _ _ = _
    simp only [execSetTracking, onLink_taken out, unnamed]
    rfl
  · change execSetFallback _ _ _ _ _ = _
    unfold execSetFallback
    rw [onLink_taken out]
    split
    · next action entry named numbered =>
      have low := (argStallAction_isSome_iff a).1 (by rw [named]; rfl)
      have := argBelow_eq_some_iff.1 numbered
      omega
    · rfl

/-! ### Raises (R156) -/

/-- Settles O48: a raise joins its bit and settles the line; an OWN one joins the stream to its set first. -/
theorem raiseSetsTheFlagAndTheLine : Obligations.RaiseSetsTheFlagAndTheLine := by
  refine fun p o n w st s => ⟨rfl, fun owner => ?_, fun b c => ?_⟩
  · simp only [raiseOwn, owner, State.modNotice_eq]
    cases w <;> rfl
  · rw [hasMember_addMember, Bool.or_comm]
    simp only [eq_comm]

/-! ### Packets outside a frame (R49, R51, R63, R64) -/

/-- A packet of a lane that is DOWN has no effect (R49). -/
theorem exec_of_laneDown {c : Instr} {p : Port} {s : State} (lane : lanePort c = some p) (notUp : c ≠ .laneUp p)
    (down : (s.capture p).laneUp = false) : exec c s = .next s := by
  cases c
  case frameStart => cases lane; exact onLane_down down _
  case line => cases lane; exact onLane_down down _
  case sideband => cases lane; exact onLane_down down _
  case frameEnd => cases lane; exact onLane_down down _
  case formatError => cases lane; exact onLane_down down _
  case laneDown => cases lane; exact onLane_down down _
  case laneUp => cases lane; exact absurd rfl notUp
  all_goals cases lane

theorem frameEndInRange_iff (status : Byte) (claimed : Word16) :
    frameEndInRange status claimed = true ↔ status.toNat ≤ 1 ∧ claimed.toNat ≤ 4095 := by
  simp only [frameEndInRange, Bool.and_eq_true, decide_eq_true_eq]
  rfl

/-- Settles O44: a field out of range has the effect of R51, and what a packet in range does without an open frame is
read off its context. -/
theorem packetsOutsideAFrame : Obligations.PacketsOutsideAFrame := by
  intro p tg number check claimed kind status payload s c
  refine ⟨exec_of_laneDown, fun out up => ⟨fun fails => ?_, fun reaches => ⟨fun idle => ?_, fun discarding => ?_⟩⟩⟩
  · obtain rfl | ⟨rfl, bad⟩ | ⟨rfl, bad⟩ | ⟨rfl, bad⟩ | ⟨rfl, bad⟩ := fails
    · exact onLane_taken out up _
    · refine (onLane_taken out up _).trans (congrArg _ (if_neg fun inRange => ?_))
      have := of_decide_eq_true inRange
      omega
    · refine (onLane_taken out up _).trans (congrArg _ (if_neg fun inRange => ?_))
      have := (lineInRange_iff ..).1 inRange
      omega
    · refine (onLane_taken out up _).trans (congrArg _ (if_neg fun inRange => ?_))
      have := (sidebandInRange_iff _).1 inRange
      omega
    · refine (onLane_taken out up _).trans (congrArg _ (if_neg fun inRange => ?_))
      have := (frameEndInRange_iff ..).1 inRange
      omega
  · obtain ⟨rfl, inRange⟩ | ⟨rfl, inRange⟩ | ⟨rfl, inRange⟩ := reaches
    · refine (onLane_taken out up _).trans (congrArg _ ((if_pos ((lineInRange_iff ..).2 inRange)).trans ?_))
      simp only [takeLine, idle]
      rfl
    · refine (onLane_taken out up _).trans (congrArg _ ((if_pos ((sidebandInRange_iff _).2 inRange)).trans ?_))
      simp only [takeSideband, idle]
      rfl
    · refine (onLane_taken out up _).trans (congrArg _ ((if_pos ((frameEndInRange_iff ..).2 inRange)).trans ?_))
      simp only [takeFrameEnd, idle]
      rfl
  · obtain ⟨rfl, inRange⟩ | ⟨rfl, inRange⟩ | ⟨rfl, inRange⟩ := reaches
    · refine (onLane_taken out up _).trans (congrArg _ ((if_pos ((lineInRange_iff ..).2 inRange)).trans ?_))
      simp [takeLine, discarding]
    · refine (onLane_taken out up _).trans (congrArg _ ((if_pos ((sidebandInRange_iff _).2 inRange)).trans ?_))
      simp [takeSideband, discarding]
    · refine (onLane_taken out up _).trans (congrArg _ ((if_pos ((frameEndInRange_iff ..).2 inRange)).trans ?_))
      simp [takeFrameEnd, discarding]

end Sys2Proof.Machine

/-! The lines of a frame, byte by byte (R99, R104, R105, R141 to R144). -/

namespace Sys2Proof.Machine

/-! ### Bytes of tables and lists -/

theorem getD_toList {n : Nat} (v : Vector Byte n) {i : Nat} (inside : i < n) :
    v.toList.getD i 0 = Table.get v ⟨i, inside⟩ := by
  rw [List.getD_eq_getElem _ _ (by simpa using inside)]
  simp [Table.get]

theorem getD_map_range (f : Nat → Byte) {n j : Nat} (inside : j < n) : ((List.range n).map f).getD j 0 = f j := by
  rw [List.getD_eq_getElem _ _ (by simpa using inside)]
  simp

/-- Fill goes round the four bytes of the word from the start of the line (R104). -/
theorem getD_fillBytes (fill : Vector Byte 4) {a b j : Nat} (inside : j < b - a) :
    (fillBytes fill a b).getD j 0 = fill.toList.getD ((a + j) % 4) 0 := by
  rw [fillBytes, getD_map_range _ inside, getD_toList]

/-! ### The line of a page (R104) -/

/-- The bytes of line `k` of page `g` as the frame shows them: the stored ones, cut or filled to the line's length. -/
def shownLine (s : State) (e : Egress) (g : PageNo) (k : Nat) : List Byte :=
  if k < (s.page g).lineCount then
    s.frameStore.readAll (lineAddress s g k) (min ((s.page g).directory.getD k 0) e.timing.lineBytes) ++
      fillBytes e.frameFill (min ((s.page g).directory.getD k 0) e.timing.lineBytes) e.timing.lineBytes
  else fillBytes e.frameFill 0 e.timing.lineBytes

theorem pageLinePayload_eq {s : State} {g : PageNo} (agrees : (s.page g).DirectoryAgrees) (e : Egress) (k : Nat) :
    pageLinePayload s e g k = .ok (shownLine s e g k) := by
  have line := fetch_of_line (index := k) (offset := 0) agrees
    (count := min ((s.page g).directory.getD k 0) e.timing.lineBytes) (by omega)
  rw [Nat.add_zero] at line
  unfold pageLinePayload shownLine
  dsimp only
  rw [line]
  split <;> rfl

theorem getD_shownLine (s : State) (e : Egress) (g : PageNo) (k : Nat) {j : Nat} (inside : j < e.timing.lineBytes) :
    (shownLine s e g k).getD j 0 =
      if k < (s.page g).lineCount ∧ j < (s.page g).directory.getD k 0 then
        s.frameStore.read (g.val * 8388608 + ((s.page g).directory.take k).sum + j)
      else e.frameFill.toList.getD (j % 4) 0 := by
  unfold shownLine
  by_cases hasLine : k < (s.page g).lineCount
  · rw [if_pos hasLine]
    by_cases stored : j < (s.page g).directory.getD k 0
    · rw [if_pos ⟨hasLine, stored⟩, List.getD_append _ _ _ _ (by rw [Memory.length_readAll]; omega), Memory.readAll,
        getD_map_range _ (by omega)]
      rfl
    · have cut : min ((s.page g).directory.getD k 0) e.timing.lineBytes = (s.page g).directory.getD k 0 := by omega
      rw [if_neg fun both => stored both.2, cut,
        List.getD_append_right _ _ _ _ (by rw [Memory.length_readAll]; omega), Memory.length_readAll,
        getD_fillBytes _ (by omega)]
      congr 2
      omega
  · rw [if_neg hasLine, if_neg fun both => hasLine both.1, getD_fillBytes _ (by omega), Nat.zero_add]

/-! ### The line of a pattern (R141 to R143) -/

theorem colour_eq_getD (c : PatternContent) {i : Nat} (inside : i < 16) : c.colour i = c.colours.toList.getD i 0 := by
  rw [getD_toList _ inside, PatternContent.colour]
  congr
  omega

theorem lineByte_fixed {c : PatternContent} (inRange : c.InRange) (kind : c.kind = .fixed) (j : Nat) :
    c.lineByte j = c.colours.toList.getD (j % c.blockSize) 0 := by
  obtain ⟨low, high, -⟩ := inRange
  have := Nat.mod_lt j low
  rw [PatternContent.lineByte, kind]
  exact colour_eq_getD c (by omega)

theorem barCount_le {c : PatternContent} (inRange : c.InRange) : c.barCount ≤ 8 := by
  obtain ⟨-, -, bars, -⟩ := inRange
  simp only [List.mem_cons, List.not_mem_nil, or_false] at bars
  omega

theorem lineByte_bars {c : PatternContent} (inRange : c.InRange) (kind : c.kind = .bars) (j : Nat) :
    c.lineByte j = c.colours.toList.getD
      (2 * min (j / c.barWidth) (c.barCount - 1) + (j - min (j / c.barWidth) (c.barCount - 1) * c.barWidth) % 2) 0 := by
  have few := barCount_le inRange
  rw [PatternContent.lineByte, kind]
  exact colour_eq_getD c (by unfold barOf; omega)

theorem lineByte_ramp {c : PatternContent} (kind : c.kind = .ramp) (j : Nat) :
    (c.lineByte j).toNat =
      ((c.colours.toList.getD 0 0).toNat + j * (c.colours.toList.getD 1 0).toNat) % 256 := by
  rw [PatternContent.lineByte, kind]
  simp only [colour_eq_getD c (show 0 < 16 by decide), colour_eq_getD c (show 1 < 16 by decide), BitVec.toNat_add,
    BitVec.toNat_mul, BitVec.toNat_ofNat, Nat.add_mod_mod, Nat.mod_mul_mod]

/-! ### The payload (R104, R105) -/

/-- What byte `j` of active line `k` of the frame of `e` is. -/
structure LineShows (s : State) (e : Egress) (k : Nat) (payload : List Byte) (j : Nat) : Prop where
  page : ∀ g, e.showing = .page → e.held = some g → payload.getD j 0 =
    if k < (s.page g).lineCount ∧ j < (s.page g).directory.getD k 0 then
      s.frameStore.read (g.val * 8388608 + ((s.page g).directory.take k).sum + j)
    else e.frameFill.toList.getD (j % 4) 0
  blank : e.showing = .blank → payload.getD j 0 = e.frameFill.toList.getD (j % 4) 0
  pattern : ∀ x c, e.showing = .pattern x → e.patternCopy = some c → payload.getD j 0 = c.lineByte j

/-- The payload of an active line of an egress in order (R104, R105). -/
theorem linePayload_shows {s : State} {e : Egress} (pages : PagesWellKept s) (showing : e.ShowingWellKept) (k : Nat) :
    ∃ payload, linePayload s e k = .ok payload ∧ ∀ j, j < e.timing.lineBytes → LineShows s e k payload j := by
  cases shows : e.showing with
  | page =>
    obtain ⟨g, held⟩ := Option.isSome_iff_exists.1 (showing.1.2 shows)
    refine ⟨shownLine s e g k, ?_, fun j inside => ⟨fun h _ holds => ?_, fun no => ?_, fun x c no => ?_⟩⟩
    · simp only [linePayload, shows, held]
      exact pageLinePayload_eq (pages g).1 e k
    · obtain rfl : g = h := by simpa [held] using holds
      exact getD_shownLine s e g k inside
    · simp [shows] at no
    · simp [shows] at no
  | blank =>
    refine ⟨fillBytes e.frameFill 0 e.timing.lineBytes, ?_,
      fun j inside => ⟨fun h no => ?_, fun _ => ?_, fun x c no => ?_⟩⟩
    · simp [linePayload, shows]
    · simp [shows] at no
    · rw [getD_fillBytes _ (by omega), Nat.zero_add]
    · simp [shows] at no
  | pattern x =>
    obtain ⟨c, copied⟩ := Option.isSome_iff_exists.1 (showing.2.2 ⟨x, shows⟩)
    refine ⟨c.line e.timing.lineBytes, ?_, fun j inside => ⟨fun h no => ?_, fun no => ?_, fun y d _ copy => ?_⟩⟩
    · simp only [linePayload, shows, copied]
    · simp [shows] at no
    · simp [shows] at no
    · obtain rfl : c = d := by simpa [copied] using copy
      exact getD_map_range _ inside

/-! ### EGRESS_LINE (R99) -/

section egressLine

variable {p : Port} {s : State} {m n : Nat}

theorem exec_egressLine_of_none (out : s.inReset = none) (ended : nextFrameLine (s.egress p) = none) :
    exec (.egressLine p) s = .next (s.setEgress p { s.egress p with lane := [] }) := by
  change execEgressLine p s = _
  simp only [execEgressLine, ended]
  exact outOfReset_taken out _

theorem exec_egressLine_of_packets {packets : List LanePacket} (out : s.inReset = none)
    (next : nextFrameLine (s.egress p) = some n) (sent : frameLinePackets s (s.egress p) n = .ok packets) :
    exec (.egressLine p) s =
      .next (s.setEgress p { s.egress p with linePosition := some n, lineSent := true, lane := packets }) := by
  change execEgressLine p s = _
  simp only [execEgressLine, next, sent]
  exact outOfReset_taken out _

theorem nextFrameLine_of_first {e : Egress} (running : e.run = .running) (position : e.linePosition = some m)
    (unsent : e.lineSent = false) : nextFrameLine e = some m := by
  simp [nextFrameLine, running, position, unsent]

theorem nextFrameLine_of_more {e : Egress} (running : e.run = .running) (position : e.linePosition = some m)
    (sent : e.lineSent = true) (more : m + 1 < e.totalLines) : nextFrameLine e = some (m + 1) := by
  simp [nextFrameLine, running, position, sent, more]

end egressLine

/-- Settles O26: the next line by `nextFrameLine`, its payload by `linePayload_shows`. -/
theorem egressLineSendsItsPackets : Obligations.EgressLineSendsItsPackets := by
  rintro p s m n e out rfl running position
  refine ⟨fun ⟨sent, last⟩ => ?_, fun next => ?_⟩
  · have frameEnded : (s.egress p).FrameOver := fun k named => by
      obtain rfl : k = m := by simpa [position, eq_comm] using named
      exact ⟨sent, last⟩
    exact exec_egressLine_of_none out ((nextFrameLine_eq_none_iff _ running).2 frameEnded)
  · have line : nextFrameLine (s.egress p) = some n := by
      obtain ⟨unsent, rfl⟩ | ⟨sent, rfl, more⟩ := next
      · exact nextFrameLine_of_first running position unsent
      · exact nextFrameLine_of_more running position sent more
    refine ⟨fun outside => ?_, fun k active inside pages patterns showing => ?_⟩
    · exact exec_egressLine_of_packets out line (if_neg (by omega))
    · obtain ⟨payload, built, shows⟩ := linePayload_shows pages showing k
      have sent : frameLinePackets s (s.egress p) n = .ok (activeLinePackets (s.egress p).timing k payload) := by
        have index : n - (s.egress p).timing.backPorch = k := by omega
        rw [frameLinePackets, if_pos (by omega), index, built]
        rfl
      refine ⟨payload, length_of_linePayload built, exec_egressLine_of_packets out line sent, fun j low => ?_⟩
      obtain ⟨page, blank, pattern⟩ := shows j low
      refine ⟨page, blank, fun x c shown copied => ?_⟩
      have inRange : c.InRange := patterns.2 p c copied
      rw [pattern x c shown copied]
      refine ⟨fun fixed => lineByte_fixed inRange fixed j, ?_, fun ramp => lineByte_ramp ramp j⟩
      rintro bars i rfl
      exact lineByte_bars inRange bars j

end Sys2Proof.Machine

/-! The answers of the four queries (R21, R71, R153, R154, 10.6): their lengths, and where their fields stand. -/

namespace Sys2Proof.Machine

/-! ### Lengths of fields (R173, 10.6) -/

@[simp] theorem length_be16 (w : Word16) : (be16 w).length = 2 := rfl

@[simp] theorem length_be32 (w : Word32) : (be32 w).length = 4 := rfl

@[simp] theorem length_two (n : Nat) : (two n).length = 2 := rfl

@[simp] theorem length_optionalNumber {n : Nat} (o : Option (Fin n)) : (optionalNumber o).length = 2 := by
  cases o <;> rfl

@[simp] theorem length_optionalWord (o : Option Word32) : (optionalWord o).length = 5 := by cases o <;> rfl

@[simp] theorem length_optional_pair (o : Option Pair) : (optional 2 Pair.bytes o).length = 3 := by cases o <;> rfl

@[simp] theorem length_optional_two (o : Option Nat) : (optional 2 two o).length = 3 := by cases o <;> rfl

@[simp] theorem length_timing (t : TimingSet) : t.bytes.length = 11 := rfl

@[simp] theorem length_optional_timing (o : Option TimingSet) : (optional 11 TimingSet.bytes o).length = 12 := by
  cases o <;> rfl

@[simp] theorem length_source (v : Source) : v.bytes.length = 2 := by cases v <;> rfl

@[simp] theorem length_showing (v : Showing) : v.bytes.length = 2 := by cases v <;> rfl

@[simp] theorem length_heldReport (s : State) (e : Egress) : (heldReport s e).length = 6 := by
  unfold heldReport
  cases e.held <;> rfl

@[simp] theorem length_optional_byte {α : Type} (f : α → Byte) (o : Option α) :
    (optional 1 (fun a => [f a]) o).length = 2 := by cases o <;> rfl

/-- Eight entries of five bytes, the unused ones 00h. -/
@[simp] theorem length_readyBytes (ready : List ReadyEntry) : (readyBytes ready).length = 40 := by
  have used : (((ready.take 8).map fun e => byteOf e.page.val :: be32 e.sequence).flatten).length =
      5 * (ready.take 8).length := by
    induction ready.take 8 with
    | nil => rfl
    | cons e rest ih =>
      simp only [List.map_cons, List.flatten_cons, List.length_append, List.length_cons, length_be32, ih]
      omega
  simp only [readyBytes, List.length_append, used, List.length_replicate, List.length_map]
  have few : (ready.take 8).length ≤ 8 := List.length_take_le ..
  omega

/-! ### Fields at their places -/

/-- The bytes of field `i` of a report that is a list of fields one after another. -/
theorem take_drop_flatten {fields : List (List Byte)} {f : List Byte} (i : Nat) {n k : Nat}
    (field : fields[i]? = some f)
    (place : ((fields.take i).map List.length).sum = n) (width : f.length = k) :
    (fields.flatten.drop n).take k = f := by
  obtain ⟨inside, rfl⟩ := List.getElem?_eq_some_iff.1 field
  have split : fields.flatten = (fields.take i).flatten ++ (fields[i] ++ (fields.drop (i + 1)).flatten) := by
    rw [← List.flatten_cons, ← List.flatten_append, ← List.drop_eq_getElem_cons inside, List.take_append_drop]
  rw [← List.length_flatten] at place
  rw [split, ← place, ← width, List.drop_left, List.take_left]

/-- The byte at place `j` of field `i`. -/
theorem getD_flatten {fields : List (List Byte)} {f : List Byte} {x : Byte} (i j : Nat) {n : Nat}
    (field : fields[i]? = some f) (byte : f[j]? = some x)
    (place : ((fields.take i).map List.length).sum + j = n) : fields.flatten.getD n 0 = x := by
  have bytes := take_drop_flatten i field rfl rfl
  have here : ((fields.flatten.drop ((fields.take i).map List.length).sum).take f.length)[j]? = some x := by
    rw [bytes, byte]
  have inside : j < f.length := (List.getElem?_eq_some_iff.1 byte).1
  rw [List.getElem?_take_of_lt inside, List.getElem?_drop, place] at here
  rw [List.getD_eq_getElem?_getD, here]
  rfl

/-! ### QUERY_STREAM -/

/-- The fields of QUERY_STREAM's response, in order. -/
def streamFields (st : StreamNo) (s : State) : List (List Byte) :=
  let r := s.stream st
  [[byteOf st.val, r.state.code], optionalNumber r.owner, optional 2 Pair.bytes r.binding,
    [r.mode.code, byteOf r.quota],
    two r.expectedLines, two r.stallTimeout, optional 2 two r.timer.milliseconds, [flagByte r.lock],
    be32 r.nextSequence, optionalWord r.lastSequence, [byteOf r.ready.length], readyBytes r.ready,
    optionalNumber r.filling, optionalWord r.lastStart, optionalWord r.lastInterval,
    [portSetByte r.subscribers, byteOf (pageCount s st)], be32 r.published, be32 r.skipped, be32 r.aborted,
    be32 r.reclaimed, be32 r.damaged,
    [byteOf (committedSum s)]]

theorem streamReport_eq (st : StreamNo) (s : State) : streamReport st s = (streamFields st s).flatten := by
  unfold streamReport streamFields
  dsimp only
  simp only [List.flatten_cons, List.flatten_nil, List.append_nil, List.append_assoc]

theorem length_streamReport (st : StreamNo) (s : State) : (streamReport st s).length = 102 := by
  simp [streamReport_eq, streamFields]

/-! ### QUERY_EGRESS -/

/-- The fields of QUERY_EGRESS's response, in order. -/
def egressFields (k : Port) (s : State) : List (List Byte) :=
  let e := s.egress k
  [[byteOf k.val, e.run.code, flagByte e.stopPending], e.timing.bytes, optional 11 TimingSet.bytes e.pendingTiming,
    two e.totalLines, optional 2 two e.linePosition, [e.tracking.code, byteOf e.window, flagByte e.trackRequest],
    optional 2 two e.manualTotal, e.source.bytes, optionalWord e.cursor, heldReport s e, e.showing.bytes,
    [flagByte e.patternCopy.isSome, flagByte e.frozen, e.stallAction.code, byteOf e.fallbackEntry.val],
    e.fillWord.toList, [flagByte e.lock], be32 e.flips, be32 e.newFrames, be32 e.repeats, be32 e.dropped,
    be32 e.fallbackFrames, [portSetByte (followersOf s k)]]

theorem egressReport_eq (k : Port) (s : State) : egressReport k s = (egressFields k s).flatten := by
  unfold egressReport egressFields
  dsimp only
  simp only [List.flatten_cons, List.flatten_nil, List.append_nil, List.append_assoc]

theorem length_egressReport (k : Port) (s : State) : (egressReport k s).length = 82 := by
  simp [egressReport_eq, egressFields]

/-- A port is among the followers of `k` exactly when its source is FOLLOW(k). -/
theorem hasMember_followersOf (s : State) (k j : Port) :
    hasMember (followersOf s k) j = decide ((s.egress j).source = .follow k) := by
  have collected : ∀ (l : List Port) (set : BitVec 4),
      hasMember (l.foldl (fun set j => if (s.egress j).source = .follow k then addMember set j else set) set) j =
        (hasMember set j || decide (j ∈ l ∧ (s.egress j).source = .follow k)) := by
    intro l
    induction l with
    | nil => simp
    | cons i rest ih =>
      intro set
      rw [List.foldl_cons, ih]
      by_cases follows : (s.egress i).source = .follow k
      · rw [if_pos follows, hasMember_addMember]
        by_cases same : j = i
        · subst same
          simp [follows]
        · simp [same]
      · rw [if_neg follows]
        by_cases same : j = i
        · subst same
          simp [follows]
        · simp [same]
  rw [followersOf, collected]
  simp [mem_allPorts, hasMember]

theorem getLsbD_portSetByte (set : BitVec 4) (j : Port) : (portSetByte set).getLsbD j.val = hasMember set j := by
  have low : j.val < 8 := by omega
  simp [portSetByte, hasMember, low]

/-! ### QUERY_PAGE and QUERY_INGRESS -/

/-- The fields of QUERY_PAGE's response, in order. -/
def pageFields (g : PageNo) (s : State) : List (List Byte) :=
  let r := s.page g
  [[byteOf g.val, r.state.code], optionalNumber r.stream, optional 2 Pair.bytes r.producer, optionalWord r.sequence,
    [r.kind], be16 r.frameNumber, be32 r.startTime, optionalWord r.endTime, two r.lineCount,
    be32 (BitVec.ofNat 32 r.bytesUsed), [r.damage.setWidth 8],
    optional 1 (fun b : List Byte => [byteOf b.length]) r.metadata,
    [flagByte r.viewed, byteOf r.holdCount, r.holders], optional 1 (fun n => [byteOf n]) (freePosition s g)]

theorem pageReport_eq (g : PageNo) (s : State) : pageReport g s = (pageFields g s).flatten := by
  unfold pageReport pageFields
  dsimp only
  simp only [List.flatten_cons, List.flatten_nil, List.append_nil, List.append_assoc]

theorem length_pageReport (g : PageNo) (s : State) : (pageReport g s).length = 38 := by
  simp [pageReport_eq, pageFields]

@[simp] theorem length_contextReport (s : State) (k : Port) (t : Tag) : (contextReport s k t).length = 6 := by
  unfold contextReport
  cases contextPage s k t <;> simp [optional]

/-- The fields of QUERY_INGRESS's response, in order. -/
def ingressFields (k : Port) (s : State) : List (List Byte) :=
  let u := s.capture k
  [[byteOf k.val, flagByte u.laneUp], contextReport s k 0, contextReport s k 1, contextReport s k 2,
    contextReport s k 3, be32 u.formatErrors, be32 u.payloadErrors, be32 u.strays, be32 u.rejects, be32 u.laneDowns]

theorem ingressReport_eq (k : Port) (s : State) : ingressReport k s = (ingressFields k s).flatten := by
  unfold ingressReport ingressFields allTags
  dsimp only
  simp only [List.flatMap_cons, List.flatMap_nil, List.flatten_cons, List.flatten_nil, List.append_nil,
    List.append_assoc]

theorem length_ingressReport (k : Port) (s : State) : (ingressReport k s).length = 46 := by
  simp [ingressReport_eq, ingressFields]

/-! ### The four answers -/

section queries

variable {p : Port} {b : Byte} {s : State}

theorem exec_queryStream_of_named {st : StreamNo} (out : s.inReset = none) (named : b.toNat = st.val) :
    exec (.queryStream p b) s = .next (s.acked p (streamReport st s)) := by
  change execQueryStream p b s = _
  simp only [execQueryStream, onLink_taken out, argBelow_eq_some_iff.2 named]
  rfl

theorem exec_queryEgress_of_named {k : Port} (out : s.inReset = none) (named : b.toNat = k.val) :
    exec (.queryEgress p b) s = .next (s.acked p (egressReport k s)) := by
  change execQueryEgress p b s = _
  simp only [execQueryEgress, onLink_taken out, argBelow_eq_some_iff.2 named]
  rfl

theorem exec_queryPage_of_named {g : PageNo} (out : s.inReset = none) (named : b.toNat = g.val) :
    exec (.queryPage p b) s = .next (s.acked p (pageReport g s)) := by
  change execQueryPage p b s = _
  simp only [execQueryPage, onLink_taken out, argBelow_eq_some_iff.2 named]
  rfl

theorem exec_queryIngress_of_named {k : Port} (out : s.inReset = none) (named : b.toNat = k.val) :
    exec (.queryIngress p b) s = .next (s.acked p (ingressReport k s)) := by
  change execQueryIngress p b s = _
  simp only [execQueryIngress, onLink_taken out, argBelow_eq_some_iff.2 named]
  rfl

/-- A number out of range is answered BAD_ARG. -/
theorem exec_queries_of_unnamed (out : s.inReset = none) :
    (8 ≤ b.toNat → exec (.queryStream p b) s = .next (s.refusedWith p .badArg)) ∧
      (4 ≤ b.toNat → exec (.queryEgress p b) s = .next (s.refusedWith p .badArg) ∧
        exec (.queryIngress p b) s = .next (s.refusedWith p .badArg)) ∧
      (16 ≤ b.toNat → exec (.queryPage p b) s = .next (s.refusedWith p .badArg)) := by
  refine ⟨fun tooHigh => ?_, fun tooHigh => ⟨?_, ?_⟩, fun tooHigh => ?_⟩
  · change execQueryStream p b s = _
    simp only [execQueryStream, onLink_taken out, argBelow_eq_none_iff.2 tooHigh]
    rfl
  · change execQueryEgress p b s = _
    simp only [execQueryEgress, onLink_taken out, argBelow_eq_none_iff.2 tooHigh]
    rfl
  · change execQueryIngress p b s = _
    simp only [execQueryIngress, onLink_taken out, argBelow_eq_none_iff.2 tooHigh]
    rfl
  · change execQueryPage p b s = _
    simp only [execQueryPage, onLink_taken out, argBelow_eq_none_iff.2 tooHigh]
    rfl

end queries

theorem eq_byteOf {b : Byte} {n : Nat} (named : b.toNat = n) : b = byteOf n := by
  rw [byteOf, ← named, BitVec.ofNat_toNat, BitVec.setWidth_eq]

/-- Settles O22: the answers are lists of fields of known lengths (`take_drop_flatten`, `getD_flatten`). -/
theorem queriesReportTheRecords : Obligations.QueriesReportTheRecords := by
  intro p b s out
  obtain ⟨badStream, badPorts, badPage⟩ := exec_queries_of_unnamed (p := p) (b := b) out
  refine ⟨badStream, badPorts, badPage, fun st named => ?_, fun k named => ?_, fun g named => ?_, fun k named => ?_⟩
  · refine ⟨_, length_streamReport st s, exec_queryStream_of_named out named, ?_⟩
    rw [streamReport_eq, eq_byteOf named]
    exact ⟨take_drop_flatten 0 rfl rfl rfl, getD_flatten 3 1 rfl rfl (by simp [streamFields]),
      take_drop_flatten 8 rfl (by simp [streamFields]) rfl, getD_flatten 10 0 rfl rfl (by simp [streamFields]),
      getD_flatten 15 1 rfl rfl (by simp [streamFields]), take_drop_flatten 16 rfl (by simp [streamFields]) rfl,
      getD_flatten 21 0 rfl rfl (by simp [streamFields])⟩
  · refine ⟨_, length_egressReport k s, exec_queryEgress_of_named out named, ?_⟩
    rw [egressReport_eq, eq_byteOf named]
    refine ⟨take_drop_flatten 0 rfl rfl rfl, take_drop_flatten 3 rfl (by simp [egressFields]) rfl,
      take_drop_flatten 14 rfl (by simp [egressFields]) rfl, fun j => ?_⟩
    rw [getD_flatten (x := portSetByte (followersOf s k)) 19 0 rfl rfl (by simp [egressFields]), getLsbD_portSetByte,
      hasMember_followersOf]
  · refine ⟨_, length_pageReport g s, exec_queryPage_of_named out named, ?_⟩
    rw [pageReport_eq, eq_byteOf named]
    exact ⟨take_drop_flatten 0 rfl rfl rfl, take_drop_flatten 8 rfl (by simp [pageFields]) rfl,
      getD_flatten 10 0 rfl rfl (by simp [pageFields]), getD_flatten 12 2 rfl rfl (by simp [pageFields])⟩
  · refine ⟨_, length_ingressReport k s, exec_queryIngress_of_named out named, ?_⟩
    rw [ingressReport_eq, eq_byteOf named]
    exact ⟨rfl, take_drop_flatten 5 rfl (by simp [ingressFields]) rfl,
      take_drop_flatten 9 rfl (by simp [ingressFields]) rfl⟩

end Sys2Proof.Machine

/-! The flip (R98 to R100, R102 to R104, R108 to R110, R115 to R122): its notices, what it leaves of the pages it gives
up, and the obligations that are read off the record of `fullFlip_egress_self`. -/

namespace Sys2Proof.Machine

/-! ### Flags that the pool does not raise -/

/-- The flags other than the OWN ones stay at every port. -/
structure FlagsKept (s t : State) : Prop where
  flag : ∀ (p : Port) (b : Fin 11), 4 ≤ b.val → hasMember (t.notice p).flags b = hasMember (s.notice p).flags b

namespace FlagsKept

variable {s t u : State}

theorem refl (s : State) : FlagsKept s s := ⟨fun _ _ _ => rfl⟩

theorem trans (h : FlagsKept s t) (k : FlagsKept t u) : FlagsKept s u :=
  ⟨fun p b high => (k.flag p b high).trans (h.flag p b high)⟩

theorem of_notices (same : t.notices = s.notices) : FlagsKept s t := by
  refine ⟨fun p b _ => ?_⟩
  rw [State.notice, same]
  rfl

theorem of_before (h : FlagsKept t u) (same : t.notices = s.notices) : FlagsKept s u := (of_notices same).trans h

theorem raiseOwn (n : OwnNotice) (st : StreamNo) (s : State) : FlagsKept s (raiseOwn n st s) := by
  unfold Machine.raiseOwn
  split
  · exact refl s
  · next o _ =>
    refine ⟨fun p b high => ?_⟩
    rw [State.modNotice_eq, State.setNotice_notice]
    split
    · next same =>
      subst same
      have other : b ≠ n.bit := by
        rintro rfl
        cases n <;> exact absurd high (by decide)
      have flags : ((NoticeUnit.joinSet (s.notice o) n st).raise n.bit).flags = addMember (s.notice o).flags n.bit := by
        cases n <;> rfl
      rw [flags, hasMember_addMember]
      simp [other]
    · rfl

theorem freeReady (g : PageNo) (s : State) : FlagsKept s (freeReady g s) := by
  unfold Machine.freeReady
  split
  · split
    · exact of_notices rfl
    · exact of_notices rfl
  · exact refl s

theorem freeAll (l : List PageNo) (s : State) : FlagsKept s (freeAll l s) := by
  induction l generalizing s with
  | nil => exact refl s
  | cons g rest ih => exact (freeReady g s).trans (ih _)

theorem endDrain (st : StreamNo) (s : State) : FlagsKept s (endDrain st s) := by
  unfold Machine.endDrain
  split
  · exact (raiseOwn .drained st _).trans (of_notices rfl)
  · exact refl _

theorem evaluateRelease (st : StreamNo) (s : State) : FlagsKept s (evaluateRelease st s) :=
  (freeAll _ s).trans (endDrain ..)

theorem releaseHold (h : Holder) (g : PageNo) (s : State) : FlagsKept s (releaseHold h g s) := by
  unfold Machine.releaseHold evaluateReleaseOf
  split
  · split
    · exact of_before (evaluateRelease ..) rfl
    · exact of_notices rfl
  · exact refl s

theorem takeHold (h : Holder) (g : PageNo) (s : State) : FlagsKept s (takeHold h g s) := by
  unfold Machine.takeHold
  split
  · exact of_notices rfl
  · exact refl s

theorem dropHeld (p : Port) (s : State) : FlagsKept s (dropHeld p s) := by
  unfold Machine.dropHeld
  split
  · exact refl s
  · exact of_before (releaseHold ..) rfl

theorem showBlank (p : Port) (s : State) : FlagsKept s (showBlank p s) := (dropHeld p s).trans (of_notices rfl)

theorem showOwnPattern (p : Port) (s : State) : FlagsKept s (showOwnPattern p s) :=
  (dropHeld p s).trans (of_notices rfl)

theorem repeatPage (p : Port) (s : State) : FlagsKept s (repeatPage p s) := of_notices rfl

theorem withoutCandidate (p : Port) (st : StreamNo) (s : State) : FlagsKept s (withoutCandidate p st s) := by
  unfold Machine.withoutCandidate stallFrame noCandidate
  split
  · split
    · exact repeatPage p s
    · exact showBlank p s
    · exact showOwnPattern p s
    · exact showBlank p s
  · split
    · exact repeatPage p s
    · exact showOwnPattern p s
    · exact showBlank p s
    · exact showBlank p s

theorem releaseUnless (p : Port) (g : PageNo) (s : State) : FlagsKept s (releaseUnless p g s) := by
  unfold Machine.releaseUnless
  split
  · exact refl s
  · exact dropHeld p s

theorem takeFromStream (p : Port) (st : StreamNo) (tries : Nat) (s : State) :
    FlagsKept s (takeFromStream p st tries s) := by
  refine takeFromStream_induction (P := FlagsKept) (withoutCandidate p st) (fun s c _ _ => ?_)
    (fun s c t _ _ later => (releaseUnless p c.page s).trans later) tries s
  exact (releaseUnless ..).trans <| (takeHold ..).trans <|
    of_before (evaluateRelease ..) rfl

theorem takeFromLeader (p k : Port) (s : State) : FlagsKept s (takeFromLeader p k s) := by
  unfold Machine.takeFromLeader
  dsimp only
  split
  · exact showBlank p s
  · unfold followPage
    split
    · exact of_notices rfl
    · refine (dropHeld p s).trans ?_
      dsimp only
      split
      · exact (takeHold ..).trans (of_notices rfl)
      · exact showBlank ..
  · exact (dropHeld p s).trans (of_notices rfl)
  · exact showBlank p s

theorem chooseFrame (p : Port) (s : State) : FlagsKept s (chooseFrame p s) := by
  unfold Machine.chooseFrame
  dsimp only
  split
  · exact showBlank p s
  · split
    · exact repeatPage p s
    · exact takeFromStream ..
  · split
    · exact repeatPage p s
    · exact takeFromLeader ..

end FlagsKept

theorem hasMember_raiseAt {p q : Port} {n : Notice} {s : State} (b : Fin 11) :
    hasMember ((raiseAt p n s).notice q).flags b =
      (hasMember (s.notice q).flags b || decide (p = q ∧ b = n.bit)) := by
  rw [raiseAt, State.modNotice_eq, State.setNotice_notice]
  split
  · next same =>
    subst same
    exact (hasMember_addMember ..).trans (by simp)
  · next other => simp [other]

/-- Tracking raises EG_TRACK when the measurement is out of its window, and nothing else (R108). -/
theorem hasMember_tracked (p q : Port) (s : State) (b : Fin 11) :
    hasMember ((tracked p s).notice q).flags b =
      (hasMember (s.notice q).flags b ||
        decide ((((s.egress p).applyPending.track (trackedInterval s (s.egress p).applyPending)).2 = true ∧ p = q) ∧
          b = 9)) := by
  have interval : trackedInterval (s.setEgress p (s.egress p).applyPending) (s.egress p).applyPending =
      trackedInterval s (s.egress p).applyPending := rfl
  unfold tracked trackTotal
  simp only [State.modEgress_eq, State.setEgress_egress_self, interval]
  split
  · next raised =>
    rw [hasMember_raiseAt]
    exact congrArg _ (decide_eq_decide.2 (by simp [raised, Notice.bit]))
  · next quiet => simp [quiet]

/-- EG_FALLBACK is raised when showing passes from PAGE to PATTERN or BLANK (R122). -/
theorem hasMember_settleFallback (p q : Port) (before : Showing) (s : State) (b : Fin 11) :
    hasMember ((settleFallback p before s).notice q).flags b =
      (hasMember (s.notice q).flags b ||
        decide (((before = .page ∧ (s.egress p).showing ≠ .page) ∧ p = q) ∧ b = 8)) := by
  unfold settleFallback
  split
  · next page => simp [page]
  · next fallback =>
    dsimp only
    split
    · next was =>
      rw [hasMember_raiseAt]
      exact congrArg _ (decide_eq_decide.2 (by simp [was, fallback, Notice.bit]))
    · next was => simp [was]

/-- The notices a flip that is not stopping raises outside the OWN ones (R108, R122). -/
theorem hasMember_fullFlip (p : Port) (s : State) {b : Fin 11} (high : 4 ≤ b.val) :
    hasMember ((fullFlip p s).notice p).flags b =
      ((hasMember (s.notice p).flags b ||
        decide (((s.egress p).applyPending.track (trackedInterval s (s.egress p).applyPending)).2 = true ∧ b = 9)) ||
        decide (((s.egress p).showing = .page ∧ ((fullFlip p s).egress p).showing ≠ .page) ∧ b = 8)) := by
  have showing : ((fullFlip p s).egress p).showing = ((chooseFrame p (tracked p s)).egress p).showing := by
    rw [fullFlip_eq, beginFrame_egress_self]
    simp only [State.modEgress_eq, State.setEgress_egress_self, settled, settleFallback_egress_self]
    split <;> rfl
  rw [fullFlip_notice, settled, hasMember_settleFallback, (FlagsKept.chooseFrame p (tracked p s)).flag p b high,
    hasMember_tracked, showing]
  simp

/-! ### Pages that are given up -/

/-- Every page record stays or is cleared, and stays while it is held. -/
structure OnlyCleared (s t : State) : Prop where
  page : ∀ g, t.page g = s.page g ∨ t.page g = Page.cleared
  held : ∀ g, (s.page g).holdCount ≠ 0 → t.page g = s.page g

namespace OnlyCleared

variable {s t u : State}

theorem refl (s : State) : OnlyCleared s s := ⟨fun _ => .inl rfl, fun _ _ => rfl⟩

theorem trans (h : OnlyCleared s t) (k : OnlyCleared t u) : OnlyCleared s u where
  page g := by
    obtain same | cleared := k.page g
    · exact same ▸ h.page g
    · exact .inr cleared
  held g isHeld := by
    have first := h.held g isHeld
    rw [k.held g (first ▸ isHeld), first]

theorem of_pages (same : t.pages = s.pages) : OnlyCleared s t := by
  have page : ∀ g, t.page g = s.page g := fun g => by simp [State.page, same]
  exact ⟨fun g => .inl (page g), fun g _ => page g⟩

theorem freeReady (g : PageNo) (s : State) : OnlyCleared s (freeReady g s) := by
  unfold Machine.freeReady
  split
  · next unheld =>
    have notHeld := ((unheldReady_iff ..).1 unheld).2
    have cleared : ∀ u : State, u.pages = s.pages → OnlyCleared s (clearToFree g u) := fun u same => by
      have page : ∀ h, u.page h = s.page h := fun h => by simp [State.page, same]
      refine ⟨fun h => ?_, fun h isHeld => ?_⟩
      · rw [clearToFree_page]
        split
        · exact .inr rfl
        · exact .inl (page h)
      · rw [clearToFree_page, if_neg fun same : g = h => isHeld (same ▸ notHeld), page]
    split
    · exact cleared _ rfl
    · exact cleared _ rfl
  · exact refl s

theorem freeAll (l : List PageNo) (s : State) : OnlyCleared s (freeAll l s) := by
  induction l generalizing s with
  | nil => exact refl s
  | cons g rest ih => exact (freeReady g s).trans (ih _)

theorem endDrain (st : StreamNo) (s : State) : OnlyCleared s (endDrain st s) := by
  unfold Machine.endDrain
  split
  · exact of_pages (raiseOwn_pages ..)
  · exact refl _

theorem evaluateRelease (st : StreamNo) (s : State) : OnlyCleared s (evaluateRelease st s) :=
  (freeAll _ s).trans (endDrain ..)

theorem evaluateReleaseOf (g : PageNo) (s : State) : OnlyCleared s (evaluateReleaseOf g s) := by
  unfold Machine.evaluateReleaseOf
  split
  · exact evaluateRelease ..
  · exact refl s

/-- A holder a page does not have it does not get. -/
theorem holder (h : OnlyCleared s t) {g : PageNo} {b : Fin 8} (no : hasMember (s.page g).holders b = false) :
    hasMember (t.page g).holders b = false := by
  obtain same | cleared := h.page g
  · rw [same, no]
  · rw [cleared]
    exact hasMember_zero b

end OnlyCleared

/-- A page that is given up loses its holder (R13). -/
theorem releaseHold_holder (h : Holder) (g : PageNo) (s : State) :
    hasMember ((releaseHold h g s).page g).holders h.bit = false := by
  unfold releaseHold
  split
  · refine (OnlyCleared.evaluateReleaseOf ..).holder ?_
    simp [Page.unhold, hasMember_dropMember]
  · next no => exact Bool.eq_false_iff.2 no

/-- What a release leaves of the other pages. -/
theorem releaseHold_onlyCleared {h : Holder} {g x : PageNo} (s : State) (other : x ≠ g) :
    ((releaseHold h g s).page x = s.page x ∨ (releaseHold h g s).page x = Page.cleared) ∧
      ((s.page x).holdCount ≠ 0 → (releaseHold h g s).page x = s.page x) := by
  unfold releaseHold
  split
  · have kept := OnlyCleared.evaluateReleaseOf g (s.modPage g fun r => r.unhold h)
    have same : (s.modPage g fun r => r.unhold h).page x = s.page x := State.setPage_page_ne _ _ other.symm
    have page := kept.page x
    have held := kept.held x
    rw [same] at page held
    exact ⟨page, held⟩
  · exact ⟨.inl rfl, fun _ => rfl⟩

theorem dropHeld_of_held {p : Port} {g : PageNo} {s : State} (held : (s.egress p).held = some g) :
    dropHeld p s = releaseHold (.egress p) g (s.setEgress p { s.egress p with held := none }) := by
  simp only [dropHeld, held]
  rfl

theorem dropHeld_of_none {p : Port} {s : State} (none : (s.egress p).held = none) : dropHeld p s = s := by
  simp [dropHeld, none]

theorem dropHeld_holder {p : Port} {g : PageNo} {s : State} (held : (s.egress p).held = some g) :
    hasMember ((dropHeld p s).page g).holders (Holder.egress p).bit = false := by
  rw [dropHeld_of_held held]
  exact releaseHold_holder ..

end Sys2Proof.Machine

/-! The obligations on flips that need no release rule: the frame length, the lane, the counters, the start and the
stop (R98 to R104, R108 to R110, R115, R122, R127). -/

namespace Sys2Proof.Machine

/-! ### Which flip is taken (R115) -/

section exec

variable {p : Port} {s : State}

theorem exec_flip_of_frameOver (out : s.inReset = none) (running : (s.egress p).run = .running)
    (frameOver : (s.egress p).FrameOver) : exec (.flip p) s = .next (flipDecision p s) :=
  execFlip_of_frameOver p s out running frameOver

theorem flipDecision_of_not_stopping (noStop : (s.egress p).stopPending = false) :
    flipDecision p s = fullFlip p s := by
  simp [flipDecision, noStop]

theorem exec_flip_of_not_stopping (out : s.inReset = none) (running : (s.egress p).run = .running)
    (noStop : (s.egress p).stopPending = false) (frameOver : (s.egress p).FrameOver) :
    exec (.flip p) s = .next (fullFlip p s) := by
  rw [exec_flip_of_frameOver out running frameOver, flipDecision_of_not_stopping noStop]

theorem exec_flip_of_stopping (out : s.inReset = none) (running : (s.egress p).run = .running)
    (stops : (s.egress p).stopPending = true) (frameOver : (s.egress p).FrameOver) :
    exec (.flip p) s = .next (stoppingFlip p s) := by
  rw [exec_flip_of_frameOver out running frameOver, flipDecision, if_pos stops]

end exec

/-! ### Timing (R98, R108 to R110) -/

/-- The fields of the frame length. -/
structure Egress.SameTiming (e e' : Egress) : Prop where
  run : e'.run = e.run
  stopPending : e'.stopPending = e.stopPending
  timing : e'.timing = e.timing
  pendingTiming : e'.pendingTiming = e.pendingTiming
  totalLines : e'.totalLines = e.totalLines
  manualTotal : e'.manualTotal = e.manualTotal
  trackRequest : e'.trackRequest = e.trackRequest

theorem Egress.SameTiming.trans {a b c : Egress} (h : a.SameTiming b) (k : b.SameTiming c) : a.SameTiming c :=
  ⟨k.run.trans h.run, k.stopPending.trans h.stopPending, k.timing.trans h.timing,
    k.pendingTiming.trans h.pendingTiming, k.totalLines.trans h.totalLines, k.manualTotal.trans h.manualTotal,
    k.trackRequest.trans h.trackRequest⟩

theorem Chosen.sameTiming {s : State} {p : Port} {e e' : Egress} (h : Chosen s p e e') : e.SameTiming e' := by
  cases h <;> exact ⟨rfl, rfl, rfl, rfl, rfl, rfl, rfl⟩

theorem Egress.sameTiming_counted (e : Egress) : e.SameTiming e.counted := by
  unfold Egress.counted
  split <;> exact ⟨rfl, rfl, rfl, rfl, rfl, rfl, rfl⟩

theorem sameTiming_fullFlip (p : Port) (s : State) :
    (trackedEgress s (s.egress p)).SameTiming ((fullFlip p s).egress p) := by
  obtain ⟨e, chosen, record⟩ := fullFlip_egress_self p s
  rw [record]
  exact chosen.sameTiming.trans (e.sameTiming_counted.trans ⟨rfl, rfl, rfl, rfl, rfl, rfl, rfl⟩)

theorem Egress.applyPending_eq (e : Egress) :
    e.applyPending =
      { e with
        timing := e.pendingTiming.getD e.timing, pendingTiming := none
        manualTotal := if e.pendingTiming.isSome then none else e.manualTotal } := by
  unfold Egress.applyPending
  split
  · next none =>
    obtain ⟨⟩ := e
    simp_all
  · next t pending => simp [pending]

/-- The two conditions of R108 on a measurement, one the negation of the other. -/
theorem inWindow_iff (t : TimingSet) (window lines : Nat) :
    inWindow t window lines = true ↔ lines ≤ t.total + window ∧ t.total ≤ lines + window ∧
      t.active + t.backPorch + t.frontPorch ≤ lines ∧ lines ≤ 4095 := by
  simp only [inWindow, between, Bool.and_eq_true, decide_eq_true_eq, and_assoc]
  exact Iff.rfl

/-- The total lines a tracking rule sets, whether it raises EG_TRACK, and what MANUAL keeps (R109, R110). -/
structure Tracks (e : Egress) (interval : Option Word32) (t : Egress) (raised : Bool) : Prop where
  timing : t.timing = e.timing
  pending : t.pendingTiming = e.pendingTiming
  off : e.tracking = .off → t.totalLines = e.timing.total ∧ raised = false
  measured : e.tracking = .auto ∨ e.tracking = .manual ∧ e.trackRequest = true →
    t.totalLines = (evaluateTracking e interval).1 ∧ raised = (evaluateTracking e interval).2
  requested : e.tracking = .manual → e.trackRequest = true →
    t.manualTotal = some t.totalLines ∧ t.trackRequest = false
  manual : e.tracking = .manual → e.trackRequest = false →
    t.totalLines = e.manualTotal.getD e.timing.total ∧ raised = false

theorem tracks_track (e : Egress) (interval : Option Word32) :
    Tracks e interval (e.track interval).1 (e.track interval).2 := by
  unfold Egress.track
  split
  · next off => exact ⟨rfl, rfl, fun _ => ⟨rfl, rfl⟩, by simp [off], by simp [off], by simp [off]⟩
  · next auto => exact ⟨rfl, rfl, by simp [auto], fun _ => ⟨rfl, rfl⟩, by simp [auto], by simp [auto]⟩
  · next manual =>
    split
    · next request =>
      exact ⟨rfl, rfl, by simp [manual], fun _ => ⟨rfl, rfl⟩, fun _ _ => ⟨rfl, rfl⟩, by simp [request]⟩
    · next noRequest =>
      exact ⟨rfl, rfl, by simp [manual], by simp [manual, noRequest], by simp [noRequest],
        fun _ _ => ⟨rfl, rfl⟩⟩

theorem hasMember_fullFlip_egTrack (p : Port) (s : State) :
    hasMember ((fullFlip p s).notice p).flags 9 =
      (hasMember (s.notice p).flags 9 ||
        ((s.egress p).applyPending.track (trackedInterval s (s.egress p).applyPending)).2) := by
  rw [hasMember_fullFlip p s (by decide)]
  simp

/-- Settles O25: `tracks_track` for the egress with its pending timing applied. -/
theorem trackingSetsTheFrameLength : Obligations.TrackingSetsTheFrameLength := by
  intro p s timing interval out running noStop frameOver hTiming hInterval
  have same := sameTiming_fullFlip p s
  have flag := hasMember_fullFlip_egTrack p s
  have applied := (s.egress p).applyPending_eq
  have source : trackedInterval s (s.egress p).applyPending = interval := by
    rw [hInterval, applied]
    rfl
  have tracks := tracks_track (s.egress p).applyPending interval
  rw [trackedEgress, source] at same
  rw [source] at flag
  rw [← hTiming] at applied
  generalize hm : (s.egress p).applyPending.track interval = m at same flag tracks
  generalize (s.egress p).applyPending = a at applied tracks hm
  obtain ⟨tTiming, tPending, off, measured, requested, manual⟩ := tracks
  subst applied
  have total : ∀ {n}, m.1.totalLines = n → ((fullFlip p s).egress p).totalLines = n := fun h =>
    same.totalLines.trans h
  have quiet : m.2 = false → hasMember ((fullFlip p s).notice p).flags 9 = hasMember (s.notice p).flags 9 :=
    fun h => by rw [flag, h, Bool.or_false]
  refine ⟨fullFlip p s, exec_flip_of_not_stopping out running noStop frameOver, same.timing.trans tTiming,
    same.pendingTiming.trans tPending, fun isOff => ?_, fun measures => ?_, fun isManual request => ?_,
    fun isManual noRequest => ?_⟩
  · obtain ⟨lines, no⟩ := off isOff
    exact ⟨total lines, quiet no⟩
  · obtain ⟨lines, raised⟩ := measured measures
    refine ⟨fun none => ?_, fun i some => ⟨fun high low covers most => ?_, fun outside => ?_⟩⟩
    · subst none
      exact ⟨total lines, quiet raised⟩
    · subst some
      have inside := (inWindow_iff timing (s.egress p).window (i.toNat * 100 / timing.linePeriod)).2
        ⟨high, low, covers, most⟩
      simp only [evaluateTracking, measuredLines, inside, if_true] at lines raised
      exact ⟨total lines, quiet raised⟩
    · subst some
      have notInside : inWindow timing (s.egress p).window (i.toNat * 100 / timing.linePeriod) = false :=
        Bool.eq_false_iff.2 fun inside => by
          have := (inWindow_iff ..).1 inside
          omega
      simp only [evaluateTracking, measuredLines, notInside, Bool.false_eq_true, if_false] at lines raised
      exact ⟨total lines, by rw [flag, raised, Bool.or_true]⟩
  · obtain ⟨kept, done⟩ := requested isManual request
    exact ⟨by rw [same.manualTotal, kept, same.totalLines], same.trackRequest.trans done⟩
  · obtain ⟨lines, no⟩ := manual isManual noRequest
    refine ⟨total (lines.trans ?_), quiet no⟩
    split <;> rfl

/-! ### The frame that begins (R99, R103, R104) -/

theorem metadataPackets_of_some (tag : Tag) (m : List Byte) :
    (m.length ≤ 32 → metadataPackets tag (some m) = [.sideband tag m (payloadCheck m)]) ∧
      (32 < m.length → metadataPackets tag (some m) =
        [.sideband tag (m.take 32) (payloadCheck (m.take 32)),
          .sideband tag (m.drop 32) (payloadCheck (m.drop 32))]) :=
  ⟨fun short => if_pos short, fun long => if_neg (Nat.not_le.2 long)⟩

/-- The lane that a flip leaves opens the frame of the record and the pages it leaves. -/
theorem fullFlip_lane_eq (p : Port) (s : State) :
    ((fullFlip p s).egress p).lane = frameOpening (fullFlip p s) ((fullFlip p s).egress p) := by
  obtain ⟨e, -, record⟩ := fullFlip_egress_self p s
  have opening : frameOpening (fullFlip p s) ((fullFlip p s).egress p) = frameOpening (settled p s) e.counted := by
    rw [record]
    unfold frameOpening Egress.begun
    simp only [fullFlip_page]
  rw [opening, record]
  rfl

theorem setWidth_eq_extractLsb' {w v : Nat} (x : BitVec w) : x.setWidth v = x.extractLsb' 0 v := by
  apply BitVec.eq_of_toNat_eq
  simp

/-- Settles O37: the record of `fullFlip_egress_self`, its lane by `fullFlip_lane_eq`. -/
theorem flipOpensTheFrame : Obligations.FlipOpensTheFrame := by
  intro p s out running noStop frameOver
  have lane := fullFlip_lane_eq p s
  have same := sameTiming_fullFlip p s
  have isRunning : ((fullFlip p s).egress p).run = .running := by
    rw [same.run, trackedEgress, Egress.track, Egress.applyPending]
    grind
  obtain ⟨e, chosen, record⟩ := fullFlip_egress_self p s
  have fill : e.counted.fillWord = (s.egress p).fillWord :=
    e.sameSettings_counted.fillWord.trans (chosen.sameSettings.fillWord.trans (sameSettings_trackedEgress ..).fillWord)
  refine ⟨fullFlip p s, exec_flip_of_not_stopping out running noStop frameOver, isRunning, by rw [record]; rfl,
    by rw [record]; rfl, by rw [record]; exact fill, fun notPage => ?_, fun g q page held sequence => ?_⟩
  · rw [lane, frameOpening]
    split
    · next isPage _ => exact absurd isPage notPage
    · rfl
  · refine ⟨metadataPackets ((fullFlip p s).egress p).timing.tag ((fullFlip p s).page g).metadata, ?_,
      fun none => ?_, fun m some => ?_⟩
    · rw [lane, frameOpening]
      simp only [page, held, sequence, Option.getD_some, setWidth_eq_extractLsb']
    · rw [none]
      rfl
    · rw [some]
      exact metadataPackets_of_some ..

/-! ### What a flip leaves of the record in which its frame was chosen (R115, R122) -/

/-- The run state and the frame shown, with its counters; the fields of the frame length are left out. -/
structure Egress.SameFrame (e e' : Egress) : Prop where
  run : e'.run = e.run
  stopPending : e'.stopPending = e.stopPending
  cursor : e'.cursor = e.cursor
  held : e'.held = e.held
  showing : e'.showing = e.showing
  patternCopy : e'.patternCopy = e.patternCopy
  flips : e'.flips = e.flips
  newFrames : e'.newFrames = e.newFrames
  repeats : e'.repeats = e.repeats
  dropped : e'.dropped = e.dropped
  fallbackFrames : e'.fallbackFrames = e.fallbackFrames

theorem Egress.SameFrame.trans {a b c : Egress} (h : a.SameFrame b) (k : b.SameFrame c) : a.SameFrame c :=
  ⟨k.run.trans h.run, k.stopPending.trans h.stopPending, k.cursor.trans h.cursor, k.held.trans h.held,
    k.showing.trans h.showing, k.patternCopy.trans h.patternCopy, k.flips.trans h.flips,
    k.newFrames.trans h.newFrames, k.repeats.trans h.repeats, k.dropped.trans h.dropped,
    k.fallbackFrames.trans h.fallbackFrames⟩

theorem Egress.sameFrame_applyPending (e : Egress) : e.SameFrame e.applyPending := by
  unfold Egress.applyPending
  split <;> exact ⟨rfl, rfl, rfl, rfl, rfl, rfl, rfl, rfl, rfl, rfl, rfl⟩

theorem Egress.sameFrame_track (e : Egress) (interval : Option Word32) : e.SameFrame (e.track interval).1 := by
  unfold Egress.track
  split
  · exact ⟨rfl, rfl, rfl, rfl, rfl, rfl, rfl, rfl, rfl, rfl, rfl⟩
  · exact ⟨rfl, rfl, rfl, rfl, rfl, rfl, rfl, rfl, rfl, rfl, rfl⟩
  · split <;> exact ⟨rfl, rfl, rfl, rfl, rfl, rfl, rfl, rfl, rfl, rfl, rfl⟩

theorem sameFrame_tracked (p : Port) (s : State) : (s.egress p).SameFrame ((tracked p s).egress p) := by
  rw [tracked_egress_self]
  exact (Egress.sameFrame_applyPending _).trans (Egress.sameFrame_track ..)

theorem sameSettings_tracked (p : Port) (s : State) : (s.egress p).SameSettings ((tracked p s).egress p) := by
  rw [tracked_egress_self]
  exact sameSettings_trackedEgress ..

/-- The chosen frame counted: a flip, and a fallback frame unless a page is shown (R122). -/
structure Egress.FrameCounted (e e' : Egress) : Prop where
  cursor : e'.cursor = e.cursor
  held : e'.held = e.held
  showing : e'.showing = e.showing
  patternCopy : e'.patternCopy = e.patternCopy
  flips : e'.flips = e.flips + 1
  newFrames : e'.newFrames = e.newFrames
  repeats : e'.repeats = e.repeats
  dropped : e'.dropped = e.dropped
  fallbackFrames : e'.fallbackFrames = if e.showing = .page then e.fallbackFrames else e.fallbackFrames + 1

theorem Egress.frameCounted_begun (e : Egress) (lane : List LanePacket) : e.FrameCounted (e.counted.begun lane) := by
  unfold Egress.counted
  split
  · next page => exact ⟨rfl, rfl, rfl, rfl, rfl, rfl, rfl, rfl, (if_pos page).symm⟩
  · next other => exact ⟨rfl, rfl, rfl, rfl, rfl, rfl, rfl, rfl, (if_neg other).symm⟩

theorem frameCounted_fullFlip (p : Port) (s : State) :
    ((chooseFrame p (tracked p s)).egress p).FrameCounted ((fullFlip p s).egress p) := by
  have record : (fullFlip p s).egress p = ((chooseFrame p (tracked p s)).egress p).counted.begun
      (frameOpening (settled p s) ((settled p s).egress p)) := by
    rw [fullFlip_eq, beginFrame_egress_self]
    simp only [State.modEgress_eq, State.setEgress_egress_self, settled, settleFallback_egress_self]
    rfl
  rw [record]
  exact Egress.frameCounted_begun ..

/-- Settles O36: the cases of `Chosen`; a page is held exactly where one is shown (R114). -/
theorem everyFlipIsCountedOnce : Obligations.EveryFlipIsCountedOnce := by
  intro p s e kept out he running noStop frameOver thawed
  subst he
  have counted := frameCounted_fullFlip p s
  have same := sameFrame_tracked p s
  have settings := sameSettings_tracked p s
  have chosen := chosen_chooseFrame p (tracked p s)
  have shows : ((tracked p s).egress p).held.isSome = true → ((tracked p s).egress p).showing = .page := by
    rw [same.held, same.showing]
    exact (kept p).2.2.1.1.1
  refine ⟨fullFlip p s, exec_flip_of_not_stopping out running noStop frameOver, ?_⟩
  obtain ⟨-, -, showing, -, flips, newFrames, repeats, -, fallbacks⟩ := counted
  simp only [flips, newFrames, repeats, fallbacks, showing, ← same.flips, ← same.newFrames, ← same.repeats,
    ← same.fallbackFrames]
  rw [← settings.frozen, ← settings.source] at thawed
  generalize (chooseFrame p (tracked p s)).egress p = chosenRecord at chosen ⊢
  generalize (tracked p s).egress p = e at chosen thawed shows ⊢
  cases chosen with
  | frozen frozen sourced => simp [frozen, sourced] at thawed
  | repeated _ held => simp [shows held]
  | blank => simp
  | ownPattern => simp
  | taken => simp
  | leaderKept => simp
  | leaderTaken => simp
  | leaderPattern => simp

/-! ### The start (R100) -/

theorem Chosen.flips {s : State} {p : Port} {e e' : Egress} (h : Chosen s p e e') : e'.flips = e.flips := by
  cases h <;> rfl

theorem exec_startEgress_of_running {p : Port} {s : State} (out : s.inReset = none)
    (unlocked : (s.egress p).lock = false) (running : (s.egress p).run = .running) :
    exec (.startEgress p) s = .next (s.refusedWith p .badState) := by
  simp [exec, execStartEgress, onLink, out, unlessLocked, unlocked, running, answered, State.refusedWith,
    Answer.refusal]

theorem exec_startEgress_of_stopped {p : Port} {s : State} (out : s.inReset = none)
    (unlocked : (s.egress p).lock = false) (stopped : (s.egress p).run = .stopped) :
    exec (.startEgress p) s = .next ((fullFlip p (s.setEgress p (s.egress p).starting)).acked p []) := by
  have decision := flipDecision_of_not_stopping (p := p) (s := s.setEgress p (s.egress p).starting)
    (by rw [State.setEgress_egress_self]; rfl)
  simp only [exec, execStartEgress, onLink, out, Option.isSome_none, Bool.false_eq_true, if_false, unlessLocked,
    unlocked, stopped, reduceCtorEq, startEgress_eq, decision]
  rfl

/-- Settles O24: the start is a flip of the egress made RUNNING. -/
theorem startEgressBeginsAFrame : Obligations.StartEgressBeginsAFrame := by
  intro p s out unlocked
  refine ⟨exec_startEgress_of_running out unlocked, fun stopped => ?_⟩
  have record : (s.setEgress p (s.egress p).starting).egress p = (s.egress p).starting :=
    State.setEgress_egress_self ..
  have same := sameFrame_tracked p (s.setEgress p (s.egress p).starting)
  have settings := sameSettings_fullFlip p (s.setEgress p (s.egress p).starting)
  have timing := sameTiming_fullFlip p (s.setEgress p (s.egress p).starting)
  have flips := (frameCounted_fullFlip p (s.setEgress p (s.egress p).starting)).flips.trans
    (congrArg (· + 1) (chosen_chooseFrame p (tracked p (s.setEgress p (s.egress p).starting))).flips)
  have upkeep : Upkeep { egress := fun q => q = p } (s.setEgress p (s.egress p).starting)
      (fullFlip p (s.setEgress p (s.egress p).starting)) := .fullFlip rfl _
  rw [same.flips] at flips
  rw [← tracked_egress_self] at timing
  rw [record] at same settings flips
  have begins := flipOpensTheFrame p (s.setEgress p (s.egress p).starting) out
    (by rw [record]; rfl) (by rw [record]; rfl) (by rw [record]; exact fun n none => nomatch none)
  obtain ⟨t, run, running, position, -⟩ := begins
  have flip : exec (.flip p) (s.setEgress p (s.egress p).starting) =
      .next (fullFlip p (s.setEgress p (s.egress p).starting)) :=
    exec_flip_of_not_stopping out (by rw [record]; rfl) (by rw [record]; rfl)
      (by rw [record]; exact fun n none => nomatch none)
  obtain rfl : fullFlip p (s.setEgress p (s.egress p).starting) = t := Host.Outcome.next.inj (flip.symm.trans run)
  refine ⟨_, flip, exec_startEgress_of_stopped out unlocked stopped, running,
    timing.stopPending.trans same.stopPending, position, flips, settings.source, settings.frozen,
    settings.stallAction, settings.fallbackEntry, settings.fillWord, fun q other => ⟨?_, ?_, ?_⟩⟩
  · rw [upkeep.within.egress q other, State.setEgress_egress_ne _ _ other.symm]
  · rw [upkeep.within.capture q id, State.setEgress_capture]
  · rw [upkeep.within.pin q id, State.setEgress_pin]

/-! ### The stop (R102, R127) -/

/-- EG_LOST at one port that follows `k`. -/
def lostAt (k : Port) (s : State) (j : Port) : State :=
  if (s.egress j).source = .follow k then raiseAt j .egLost s else s

theorem raiseFollowersLost_eq (k : Port) (s : State) : raiseFollowersLost k s = allPorts.foldl (lostAt k) s := rfl

theorem lostAt_egress (k j q : Port) (s : State) : (lostAt k s j).egress q = s.egress q := by
  unfold lostAt
  split
  · exact raiseAt_egress ..
  · rfl

theorem lostAt_raises {k x j : Port} {s : State} (follows : (s.egress j).source = .follow k)
    (h : j = x ∨ hasMember (s.notice j).flags 7 = true) : hasMember ((lostAt k s x).notice j).flags 7 = true := by
  unfold lostAt
  split
  · rw [hasMember_raiseAt]
    obtain rfl | raised := h
    · simp [Notice.bit]
    · simp [raised]
  · next no =>
    obtain rfl | raised := h
    · exact absurd follows no
    · exact raised

theorem raiseFollowersLost_raises {k j : Port} {s : State} (follows : (s.egress j).source = .follow k) :
    hasMember ((raiseFollowersLost k s).notice j).flags 7 = true := by
  have fold : ∀ (l : List Port) (s : State), (s.egress j).source = .follow k →
      j ∈ l ∨ hasMember (s.notice j).flags 7 = true →
        hasMember ((l.foldl (lostAt k) s).notice j).flags 7 = true := by
    intro l
    induction l with
    | nil => exact fun s _ h => h.resolve_left List.not_mem_nil
    | cons x rest ih =>
      intro s follows h
      refine ih _ (by rw [lostAt_egress]; exact follows) ?_
      rw [List.mem_cons, or_right_comm] at h
      exact h.symm.imp id (lostAt_raises follows)
  rw [raiseFollowersLost_eq]
  exact fold _ _ follows (.inl (mem_allPorts j))

theorem raiseFollowersLost_pool (k : Port) (s : State) :
    (raiseFollowersLost k s).pages = s.pages ∧ (raiseFollowersLost k s).freeList = s.freeList ∧
      (raiseFollowersLost k s).streams = s.streams := by
  have fold : ∀ (l : List Port) (s : State), (l.foldl (lostAt k) s).pages = s.pages ∧
      (l.foldl (lostAt k) s).freeList = s.freeList ∧ (l.foldl (lostAt k) s).streams = s.streams := by
    intro l
    induction l with
    | nil => exact fun s => ⟨rfl, rfl, rfl⟩
    | cons x rest ih =>
      intro s
      have one : (lostAt k s x).pages = s.pages ∧ (lostAt k s x).freeList = s.freeList ∧
          (lostAt k s x).streams = s.streams := by
        unfold lostAt
        split <;> exact ⟨rfl, rfl, rfl⟩
      obtain ⟨pages, freeList, streams⟩ := ih (lostAt k s x)
      exact ⟨pages.trans one.1, freeList.trans one.2.1, streams.trans one.2.2⟩
  exact fold allPorts s

/-- A held page given up, with the holder among the page's holders (R13). -/
theorem dropHeld_of_holder {p : Port} {g : PageNo} {u : StreamNo} {s : State} (held : (s.egress p).held = some g)
    (inStream : (s.page g).stream = some u) (holder : hasMember (s.page g).holders (Holder.egress p).bit = true) :
    dropHeld p s = evaluateRelease u ((s.setEgress p { s.egress p with held := none }).setPage g
      ((s.page g).unhold (.egress p))) := by
  rw [dropHeld_of_held held, releaseHold, if_pos (by exact holder), evaluateReleaseOf]
  simp only [State.modPage_eq, State.setPage_page_self, State.setEgress_page, Page.unhold, inStream]

theorem Egress.stopped_applyPendingStopped (e : Egress) :
    ({ e with held := none, cursor := none } : Egress).stopped.applyPendingStopped =
      { e with
        run := .stopped, stopPending := false, linePosition := none, lineSent := false, cursor := none
        held := none, showing := .blank, patternCopy := none, lane := []
        timing := e.pendingTiming.getD e.timing, pendingTiming := none
        manualTotal := if e.pendingTiming.isSome then none else e.manualTotal
        totalLines := (e.pendingTiming.map TimingSet.total).getD e.totalLines } := by
  obtain ⟨⟩ := e
  simp only [Egress.stopped, Egress.applyPendingStopped]
  split <;> simp_all

theorem clearCursor_egress_ne {p q : Port} (other : q ≠ p) (s : State) : (clearCursor p s).egress q = s.egress q := by
  unfold clearCursor
  dsimp only
  split
  · rw [evaluateRelease_egress]
    exact State.setEgress_egress_ne _ _ other.symm
  · exact State.setEgress_egress_ne _ _ other.symm

theorem onlyCleared_clearCursor (p : Port) (s : State) : OnlyCleared s (clearCursor p s) := by
  have cleared : OnlyCleared s (s.modEgress p fun e => { e with cursor := none }) := .of_pages rfl
  unfold clearCursor
  dsimp only
  split
  · exact cleared.trans (.evaluateRelease ..)
  · exact cleared

theorem clearCursor_of_stream {p : Port} {st : StreamNo} {s : State} (source : (s.egress p).source = .stream st) :
    clearCursor p s = evaluateRelease st (s.setEgress p { s.egress p with cursor := none }) := by
  unfold clearCursor
  rw [source]
  rfl

theorem clearCursor_of_ne {p : Port} {s : State} (source : ∀ st, (s.egress p).source ≠ .stream st) :
    clearCursor p s = s.setEgress p { s.egress p with cursor := none } := by
  unfold clearCursor
  split
  · next st isStream => exact absurd isStream (source st)
  · rfl

theorem exec_flip_of_none {p : Port} {s : State} (h : (s.egress p).run = .stopped ∨ ¬ (s.egress p).FrameOver) :
    exec (.flip p) s = .next s :=
  execFlip_of_not p s h

/-- Settles O31: the release of `dropHeld_of_holder`, then the evaluation without the cursor, then the fields. -/
theorem stoppingFlipStopsTheEgress : Obligations.StoppingFlipStopsTheEgress := by
  intro p s e out he
  subst he
  refine ⟨exec_flip_of_none, fun running stops frameOver => ?_⟩
  have upkeep : Upkeep { egress := fun q => q = p } s (stoppingFlip p s) := .stoppingFlip rfl s
  obtain ⟨pages, freeList, streams⟩ := raiseFollowersLost_pool p
    ((clearCursor p (dropHeld p s)).modEgress p fun e => e.stopped.applyPendingStopped)
  have before : ∀ j, (((clearCursor p (dropHeld p s)).modEgress p
      fun e => e.stopped.applyPendingStopped).egress j).source = (s.egress j).source := fun j => by
    have kept := upkeep.within.egress j
    have settings := (sameSettings_flipDecision p s).source
    rw [flipDecision, if_pos stops] at settings
    rw [stoppingFlip, raiseFollowersLost_egress] at kept settings
    by_cases own : j = p
    · subst own
      exact settings
    · rw [kept own]
  refine ⟨stoppingFlip p s, exec_flip_of_stopping out running stops frameOver, ?_,
    fun q other => upkeep.within.egress q other, fun j follows => ?_, fun g held => ?_,
    fun g u left held inStream holder hLeft last hLast => ?_, Table.ext fun q => upkeep.within.capture q id,
    Table.ext fun q => upkeep.within.pin q id, Table.ext fun n => upkeep.within.pattern n id,
    upkeep.within.frameStore id⟩
  · rw [stoppingFlip_egress_self, Egress.stopped_applyPendingStopped]
  · exact raiseFollowersLost_raises ((before j).trans follows)
  · have gone := (onlyCleared_clearCursor p (dropHeld p s)).holder (dropHeld_holder held)
    rw [stoppingFlip, State.page, pages]
    exact gone
  · have hDrop : dropHeld p s = left := (dropHeld_of_holder held inStream holder).trans hLeft.symm
    have record : left.egress p = { s.egress p with held := none } := by
      rw [← hDrop]
      exact dropHeld_egress_self s
    have pool : (clearCursor p left).pages = last.pages ∧ (clearCursor p left).freeList = last.freeList ∧
        (clearCursor p left).streams = last.streams := by
      split at hLast
      · next st source =>
        rw [hLast, clearCursor_of_stream (by rw [record]; exact source), record]
        exact ⟨rfl, rfl, rfl⟩
      · next other =>
        rw [hLast, clearCursor_of_ne (by rw [record]; exact other)]
        exact ⟨rfl, rfl, rfl⟩
    rw [stoppingFlip, hDrop]
    rw [hDrop] at pages freeList streams
    exact ⟨pages.trans pool.1, freeList.trans pool.2.1, streams.trans pool.2.2⟩

end Sys2Proof.Machine

/-! The release rules (R86 to R89, R15, R16, R37): which listed pages an evaluation frees and what it leaves of the
others, and why an allocation below the quota finds a page (R7). -/

namespace Sys2Proof.Machine

/-! ### Frees of READY pages (R15, R16) -/

theorem OnlyCleared.holdCount {s t : State} (h : OnlyCleared s t) (g : PageNo) :
    (t.page g).holdCount = (s.page g).holdCount := by
  by_cases unheld : (s.page g).holdCount = 0
  · obtain same | cleared := h.page g
    · rw [same]
    · rw [cleared, unheld]
      rfl
  · rw [h.held g unheld]

theorem freeReady_of_held {g : PageNo} {s : State} (held : (s.page g).holdCount ≠ 0) : freeReady g s = s :=
  if_neg fun unheld => held ((unheldReady_iff ..).1 unheld).2

/-- Frees of held pages are declined, so the others are all that count. -/
theorem freeAll_eq_filter (l : List PageNo) (s : State) :
    freeAll l s = freeAll (l.filter fun g => decide ((s.page g).holdCount = 0)) s := by
  induction l generalizing s with
  | nil => rfl
  | cons g rest ih =>
    have kept : ∀ u, OnlyCleared s u → (rest.filter fun g => decide ((u.page g).holdCount = 0)) =
        rest.filter fun g => decide ((s.page g).holdCount = 0) := fun u only => by
      simp only [only.holdCount]
    by_cases unheld : (s.page g).holdCount = 0
    · rw [List.filter_cons_of_pos (by simpa using unheld)]
      change freeAll rest (freeReady g s) = freeAll _ (freeReady g s)
      rw [ih, kept _ (.freeReady g s)]
    · rw [List.filter_cons_of_neg (by simpa using unheld)]
      change freeAll rest (freeReady g s) = _
      rw [freeReady_of_held unheld, ih]

/-- A READY page of the stream that no one holds. -/
structure UnheldOf (s : State) (st : StreamNo) (g : PageNo) : Prop where
  ready : (s.page g).state = .ready
  unheld : (s.page g).holdCount = 0
  stream : (s.page g).stream = some st

theorem freeReady_of_unheld {g : PageNo} {st : StreamNo} {s : State} (h : UnheldOf s st g) :
    freeReady g s = clearToFree g (leaveReadyList st g s) := by
  rw [freeReady, if_pos ((unheldReady_iff ..).2 ⟨h.ready, h.unheld⟩), h.stream]

/-- The pages `l` of stream `st` are freed in order. -/
structure FreesPages (st : StreamNo) (l : List PageNo) (s t : State) : Prop where
  stream : t.stream st =
    { s.stream st with
      ready := (s.stream st).ready.filter fun e => decide (e.page ∉ l)
      reclaimed := (s.stream st).reclaimed + BitVec.ofNat 32 (l.countP fun g => !(s.page g).viewed) }
  others : ∀ n, n ≠ st → t.stream n = s.stream n
  page : ∀ g, t.page g = if g ∈ l then Page.cleared else s.page g
  freeList : t.freeList = s.freeList ++ l
  notices : t.notices = s.notices

theorem freesPages_freeReady {g : PageNo} {st : StreamNo} {s : State} (h : UnheldOf s st g) :
    FreesPages st [g] s (freeReady g s) := by
  rw [freeReady_of_unheld h]
  refine ⟨?_, fun n other => State.setStream_stream_ne _ _ other.symm, fun x => ?_, rfl, rfl⟩
  · simp only [clearToFree_stream, leaveReadyList, State.modStream_eq, State.setStream_stream_self,
      List.mem_singleton, List.countP_singleton]
    cases (s.page g).viewed <;> simp
  · rw [clearToFree_page]
    simp only [leaveReadyList, State.modStream_eq, State.setStream_page, List.mem_singleton, eq_comm (a := g)]

theorem FreesPages.trans {st : StreamNo} {g : PageNo} {l : List PageNo} {s t u : State} (fresh : g ∉ l)
    (h : FreesPages st [g] s t) (k : FreesPages st l t u) : FreesPages st (g :: l) s u := by
  have page : ∀ x ∈ l, t.page x = s.page x := fun x mem => by
    rw [h.page, if_neg fun same => fresh (by rwa [← List.mem_singleton.1 same])]
  refine ⟨?_, fun n other => (k.others n other).trans (h.others n other), fun x => ?_, ?_,
    k.notices.trans h.notices⟩
  · have viewed : (l.countP fun x => !(t.page x).viewed) = l.countP fun x => !(s.page x).viewed :=
      List.countP_congr fun x mem => by rw [page x mem]
    have ready : ((s.stream st).ready.filter fun e => decide (e.page ∉ [g])).filter (fun e => decide (e.page ∉ l)) =
        (s.stream st).ready.filter fun e => decide (e.page ∉ g :: l) := by
      rw [List.filter_filter]
      congr 1
      funext e
      by_cases first : e.page = g <;> by_cases later : e.page ∈ l <;> simp [first, later]
    have count : (s.stream st).reclaimed + BitVec.ofNat 32 ([g].countP fun x => !(s.page x).viewed) +
        BitVec.ofNat 32 (l.countP fun x => !(s.page x).viewed) =
          (s.stream st).reclaimed + BitVec.ofNat 32 ((g :: l).countP fun x => !(s.page x).viewed) := by
      rw [BitVec.add_assoc, ← BitVec.ofNat_add, ← List.countP_append, List.singleton_append]
    simp only [k.stream, h.stream, viewed, ready, count]
  · rw [k.page, h.page]
    by_cases first : x = g <;> by_cases later : x ∈ l <;> simp [first, later]
  · rw [k.freeList, h.freeList, List.append_assoc]
    rfl

theorem freesPages_freeAll {st : StreamNo} {l : List PageNo} {s : State} (nodup : l.Nodup)
    (unheld : ∀ g ∈ l, UnheldOf s st g) : FreesPages st l s (freeAll l s) := by
  induction l generalizing s with
  | nil => exact ⟨by simp [freeAll], fun _ _ => rfl, fun _ => rfl, (List.append_nil _).symm, rfl⟩
  | cons g rest ih =>
    obtain ⟨fresh, restNodup⟩ := List.nodup_cons.1 nodup
    have first := freesPages_freeReady (unheld g (List.mem_cons_self ..))
    refine first.trans fresh (ih restNodup fun x mem => ?_)
    obtain ⟨ready, noHold, stream⟩ := unheld x (List.mem_cons_of_mem _ mem)
    have same : (freeReady g s).page x = s.page x := by
      rw [first.page, if_neg fun is => fresh (by rwa [← List.mem_singleton.1 is])]
    exact ⟨same ▸ ready, same ▸ noHold, same ▸ stream⟩

/-! ### The entries a rule calls for (R86 to R89) -/

theorem dropLast_eq_filter {α : Type} [DecidableEq α] {l : List α} (nodup : l.Nodup) :
    l.dropLast = l.filter fun a => decide (l.getLast? ≠ some a) := by
  obtain rfl | ⟨front, last, rfl⟩ := List.eq_nil_or_concat l
  · rfl
  · have fresh : ∀ a ∈ front, last ≠ a := fun a mem same => by
      rw [List.concat_eq_append, List.nodup_append] at nodup
      exact nodup.2.2 a mem last (List.mem_singleton_self _) same.symm
    have kept : front.filter (fun a => decide (last ≠ a)) = front :=
      List.filter_eq_self.2 fun a mem => decide_eq_true (fresh a mem)
    simp only [List.concat_eq_append, List.dropLast_concat, List.getLast?_append, List.getLast?_singleton,
      Option.some_or, List.filter_append, Option.some.injEq, ne_eq] at kept ⊢
    rw [kept]
    simp

theorem StreamPagesExact.ready_nodup {s : State} {st : StreamNo} (exact : StreamPagesExact s st) :
    (s.stream st).ready.Nodup := exact.1.of_map _

/-- Two entries of a ready list with one page are one entry. -/
theorem StreamPagesExact.entry_eq {s : State} {st : StreamNo} (exact : StreamPagesExact s st) {e x : ReadyEntry}
    (he : e ∈ (s.stream st).ready) (hx : x ∈ (s.stream st).ready) (same : e.page = x.page) : e = x :=
  List.inj_on_of_nodup_map exact.1 he hx same

theorem isOpen_iff (r : StreamState) : r.isOpen = true ↔ r ≠ .closed ∧ r ≠ .draining := by
  cases r <;> decide

theorem ruleCallsFor_of_latest {s : State} {st : StreamNo} (isOpen : (s.stream st).state.isOpen = true)
    (latest : (s.stream st).mode = .latest) (e : ReadyEntry) :
    RuleCallsFor s st e ↔ (s.stream st).ready.getLast? ≠ some e := by
  simp [RuleCallsFor, isOpen, latest, ((isOpen_iff _).1 isOpen).2]

theorem ruleCallsFor_of_queued {s : State} {st : StreamNo} (isOpen : (s.stream st).state.isOpen = true)
    (queued : (s.stream st).mode = .queued) (e : ReadyEntry) :
    RuleCallsFor s st e ↔ (s.stream st).subscribers ≠ 0#4 ∧ PassedByEverySubscriber s st e.sequence := by
  simp [RuleCallsFor, isOpen, queued, ((isOpen_iff _).1 isOpen).2]

theorem ruleEntries_eq {s : State} {st : StreamNo} (nodup : (s.stream st).ready.Nodup) :
    ruleEntries s (s.stream st) = (s.stream st).ready.filter fun e => decide (RuleCallsFor s st e) := by
  unfold ruleEntries
  split
  · next closed =>
    exact (List.filter_eq_nil_iff.2 fun e _ => by simp [RuleCallsFor, closed, StreamState.isOpen]).symm
  · next draining => exact (List.filter_eq_self.2 fun e _ => decide_eq_true (.inl draining)).symm
  · next latest notClosed notDraining =>
    have isOpen := (isOpen_iff _).2 ⟨notClosed, notDraining⟩
    simp only [ruleCallsFor_of_latest isOpen latest, dropLast_eq_filter nodup]
  · next queued notClosed notDraining =>
    have isOpen := (isOpen_iff _).2 ⟨notClosed, notDraining⟩
    simp only [ruleCallsFor_of_queued isOpen queued]
    split
    · next no => exact (List.filter_eq_nil_iff.2 fun e _ => by simp [no]).symm
    · next some =>
      congr 1
      funext e
      rw [Bool.eq_iff_iff, passedByAll_iff, decide_eq_true_eq]
      exact ⟨fun passed => ⟨some, passed⟩, fun both => both.2⟩

/-! ### An evaluation (R86) -/

/-- The pages that an evaluation frees, oldest first. -/
def freedPages (s : State) (st : StreamNo) : List PageNo :=
  ((s.stream st).ready.filter fun e => decide (EvaluationFrees s st e)).map ReadyEntry.page

theorem evaluateRelease_eq {s : State} {st : StreamNo} (exact : StreamPagesExact s st) :
    evaluateRelease st s = endDrain st (freeAll (freedPages s st) s) := by
  rw [evaluateRelease, freeAll_eq_filter, ruleEntries_eq exact.ready_nodup, List.filter_map, List.filter_filter]
  congr 3
  refine List.filter_congr fun e _ => ?_
  rw [Bool.decide_and, Bool.and_comm]
  rfl

theorem mem_freedPages_iff {s : State} {st : StreamNo} {g : PageNo} :
    g ∈ freedPages s st ↔ ∃ e ∈ (s.stream st).ready, e.page = g ∧ EvaluationFrees s st e := by
  simp only [freedPages, List.mem_map, List.mem_filter, decide_eq_true_eq]
  exact ⟨fun ⟨e, ⟨he, frees⟩, same⟩ => ⟨e, he, same, frees⟩,
    fun ⟨e, he, same, frees⟩ => ⟨e, ⟨he, frees⟩, same⟩⟩

theorem page_mem_freedPages_iff {s : State} {st : StreamNo} (exact : StreamPagesExact s st) {e : ReadyEntry}
    (he : e ∈ (s.stream st).ready) : e.page ∈ freedPages s st ↔ EvaluationFrees s st e := by
  rw [mem_freedPages_iff]
  refine ⟨fun ⟨x, hx, same, frees⟩ => ?_, fun frees => ⟨e, he, rfl, frees⟩⟩
  rwa [exact.entry_eq he hx same.symm]

theorem unheldOf_of_mem_freedPages {s : State} {st : StreamNo} (exact : StreamPagesExact s st) :
    ∀ g ∈ freedPages s st, UnheldOf s st g := by
  intro g mem
  obtain ⟨e, he, rfl, -, unheld⟩ := mem_freedPages_iff.1 mem
  obtain ⟨ready, stream, -⟩ := exact.2.1 e he
  exact ⟨ready, unheld, stream⟩

theorem freedPages_nodup {s : State} {st : StreamNo} (exact : StreamPagesExact s st) : (freedPages s st).Nodup :=
  exact.1.sublist (List.filter_sublist.map _)

theorem freesPages_freedPages {s : State} {st : StreamNo} (exact : StreamPagesExact s st) :
    FreesPages st (freedPages s st) s (freeAll (freedPages s st) s) :=
  freesPages_freeAll (freedPages_nodup exact) (unheldOf_of_mem_freedPages exact)

/-- What an evaluation of the release rules of `st` leaves (R86 to R89, R15, R16, R37). -/
structure Released (st : StreamNo) (s t : State) : Prop where
  stream : t.stream st =
    { s.stream st with
      ready := (s.stream st).ready.filter fun e => !decide (EvaluationFrees s st e)
      reclaimed := (s.stream st).reclaimed + BitVec.ofNat 32 ((s.stream st).ready.countP fun e =>
        decide (EvaluationFrees s st e) && !(s.page e.page).viewed)
      state := if (s.stream st).state = .draining ∧ pageCount t st = 0 then .closed else (s.stream st).state
      owner := if (s.stream st).state = .draining ∧ pageCount t st = 0 then none else (s.stream st).owner }
  others : ∀ n, n ≠ st → t.stream n = s.stream n
  page : ∀ g, t.page g = if g ∈ freedPages s st then Page.cleared else s.page g
  freeList : t.freeList = s.freeList ++ freedPages s st
  drained : (s.stream st).state = .draining → pageCount t st = 0 → ∀ o, (s.stream st).owner = some o →
    hasMember (t.notice o).flags 3 = true ∧ hasMember (t.notice o).drainedSet st = true
  notices : (s.stream st).state ≠ .draining ∨ pageCount t st ≠ 0 → t.notices = s.notices

theorem pageCount_congr {s t : State} {st : StreamNo} (pages : t.pages = s.pages) :
    pageCount t st = pageCount s st := by
  have page : ∀ g, t.page g = s.page g := fun g => by simp [State.page, pages]
  exact List.countP_congr fun g _ => by rw [page g]

/-- OWN_DRAINED lands at the owner with the stream in its set (R25, R156). -/
theorem raiseOwn_drained_raises {st : StreamNo} {o : Port} {s : State} (owner : (s.stream st).owner = some o) :
    hasMember ((raiseOwn .drained st s).notice o).flags 3 = true ∧
      hasMember ((raiseOwn .drained st s).notice o).drainedSet st = true := by
  simp [raiseOwn, owner, NoticeUnit.raise, NoticeUnit.settle, NoticeUnit.joinSet, OwnNotice.bit,
    hasMember_addMember]

@[simp] theorem raiseOwn_freeList (n : OwnNotice) (st : StreamNo) (s : State) :
    (raiseOwn n st s).freeList = s.freeList := by
  unfold raiseOwn
  split <;> rfl

theorem reachClosed_stream_self (st : StreamNo) (s : State) :
    (reachClosed st s).stream st = { s.stream st with state := .closed, owner := none } := by
  simp [reachClosed]

theorem reachClosed_stream_ne {st n : StreamNo} (other : n ≠ st) (s : State) :
    (reachClosed st s).stream n = s.stream n := by
  simp [reachClosed, State.setStream_stream_ne _ _ other.symm]

theorem released_evaluateRelease {s : State} {st : StreamNo} (exact : StreamPagesExact s st) :
    Released st s (evaluateRelease st s) := by
  obtain ⟨stream, others, page, freeList, notices⟩ := freesPages_freedPages exact
  have ready : ((s.stream st).ready.filter fun e => decide (e.page ∉ freedPages s st)) =
      (s.stream st).ready.filter fun e => !decide (EvaluationFrees s st e) :=
    List.filter_congr fun e he => by simp [page_mem_freedPages_iff exact he]
  have count : ((freedPages s st).countP fun g => !(s.page g).viewed) =
      (s.stream st).ready.countP fun e => decide (EvaluationFrees s st e) && !(s.page e.page).viewed := by
    rw [freedPages, List.countP_map, List.countP_filter]
    exact List.countP_congr fun e _ => by simp [and_comm]
  rw [ready, count] at stream
  rw [evaluateRelease_eq exact]
  generalize freeAll (freedPages s st) s = u at stream others page freeList notices
  have state : (u.stream st).state = (s.stream st).state := by rw [stream]
  have owner : (u.stream st).owner = (s.stream st).owner := by rw [stream]
  unfold endDrain
  split
  · next ends =>
    obtain ⟨draining, empty⟩ := ends
    have pages : (reachClosed st u).pages = u.pages := by simp [reachClosed]
    have same : pageCount (reachClosed st u) st = 0 := (pageCount_congr pages).trans empty
    rw [state] at draining
    refine ⟨?_, fun n other => (reachClosed_stream_ne other u).trans (others n other), fun g => ?_, ?_,
      fun _ _ o ho => ?_, fun h => ?_⟩
    · rw [reachClosed_stream_self, stream, if_pos ⟨draining, same⟩, if_pos ⟨draining, same⟩]
    · rw [State.page, pages]
      exact page g
    · simp only [reachClosed, State.modStream_eq, State.setStream_freeList, raiseOwn_freeList, freeList]
    · exact raiseOwn_drained_raises (owner.trans ho)
    · exact absurd h (by simp [draining, same])
  · next goesOn =>
    rw [state] at goesOn
    refine ⟨?_, others, page, freeList, fun draining empty => absurd ⟨draining, empty⟩ goesOn, fun _ => notices⟩
    rw [stream, if_neg goesOn, if_neg goesOn]

/-! ### Page counts (R22, R27) -/

theorem mem_allPages (g : PageNo) : g ∈ allPages := by revert g; decide

theorem allPages_nodup : allPages.Nodup := by decide

theorem pageCount_eq_card (s : State) (st : StreamNo) :
    pageCount s st =
      (Finset.univ.filter fun g : PageNo => (s.page g).stream = some st ∧ (s.page g).state ≠ .free).card := by
  have filtered : (Finset.univ.filter fun g : PageNo => (s.page g).stream = some st ∧ (s.page g).state ≠ .free) =
      (allPages.filter fun g =>
        decide ((s.page g).stream = some st) && decide ((s.page g).state ≠ .free)).toFinset := by
    ext g
    simp [mem_allPages]
  rw [filtered, List.toFinset_card_of_nodup (allPages_nodup.filter _), pageCount, List.countP_eq_length_filter]

/-- With no page FREE the page counts add up to the sixteen pages. -/
theorem sum_pageCount {s : State} (kept : PagesWellKept s) (none : ∀ g, (s.page g).state ≠ .free) :
    ∑ st : StreamNo, pageCount s st = 16 := by
  have one : ∀ g : PageNo, ∑ st : StreamNo,
      (if (s.page g).stream = some st ∧ (s.page g).state ≠ .free then 1 else 0) = 1 := fun g => by
    obtain ⟨st, stream⟩ := Option.isSome_iff_exists.1 ((kept g).2.2.1.2.1 (none g)).1
    simp [stream, none g]
  simp only [pageCount_eq_card, Finset.card_filter]
  rw [Finset.sum_comm]
  simp only [one, Finset.sum_const, Finset.card_univ, Fintype.card_fin, smul_eq_mul, mul_one]

theorem pageCount_le_committedQuota {s : State} (coherent : Coherent s) (st : StreamNo) :
    pageCount s st ≤ committedQuota (s.stream st) := by
  obtain ⟨within, closed, -⟩ := coherent.streamCounts st
  unfold committedQuota
  split
  · next isClosed => exact (closed isClosed).le
  · exact within

/-- R7: a stream in use with its page count below its quota finds a FREE page. -/
theorem freeList_ne_nil {s : State} {st : StreamNo} (coherent : Coherent s) (used : (s.stream st).state ≠ .closed)
    (below : pageCount s st < (s.stream st).quota) : s.freeList ≠ [] := by
  intro empty
  have none : ∀ g, (s.page g).state ≠ .free := fun g free => by
    have := (coherent.freeList.2 g).2 free
    simp [empty] at this
  have total := sum_pageCount coherent.pages none
  have less : ∑ n : StreamNo, pageCount s n < ∑ n : StreamNo, committedQuota (s.stream n) :=
    Finset.sum_lt_sum (fun n _ => pageCount_le_committedQuota coherent n)
      ⟨st, Finset.mem_univ st, by rwa [committedQuota, if_neg used]⟩
  have sum : committedSum s ≤ 16 := coherent.commitments.1
  rw [← committedSum_eq] at less
  omega

/-- Settles O60: `freeList_ne_nil`, then the fields of `released_evaluateRelease`. -/
theorem allocationAlwaysFindsAPage : Obligations.AllocationAlwaysFindsAPage := by
  refine ⟨fun s st => freeList_ne_nil, fun s t st r exact hr ht => ?_⟩
  subst hr ht
  obtain ⟨stream, others, page, freeList, drained, notices⟩ := released_evaluateRelease exact
  have pool := PoolOnly.evaluateRelease st s
  refine ⟨stream, fun g => ?_, freeList, drained, notices, others, pool.egresses, pool.captures, pool.pins,
    pool.patterns, pool.frameStore, pool.timeBase⟩
  rw [page]
  congr 1
  simp [mem_freedPages_iff]

end Sys2Proof.Machine

/-! What every change of the pool keeps (R3, R4, R12, R22, R36, R53, R73): pages, holders, ready lists and contexts
agree, through the intermediate states of an event as well. -/

namespace Sys2Proof.Machine

/-! ### The invariant between two changes -/

/-- What `StreamCountFits` asks of a stream; while an evaluation of its release rules is `due`, a DRAINING stream
may still list pages that no one holds. -/
structure CountFits (s : State) (st : StreamNo) (due : Prop) : Prop where
  within : pageCount s st ≤ (s.stream st).quota
  closed : (s.stream st).state = .closed → pageCount s st = 0
  draining : (s.stream st).state = .draining → (s.stream st).filling = none ∧
    (¬ due → 0 < pageCount s st ∧ ∀ e ∈ (s.stream st).ready, 0 < (s.page e.page).holdCount)

/-- What `ContextsExact` asks of one context; one that is `cut`, its frame aborted and its new state not yet
written, has no FILLING page. -/
structure ContextFits (s : State) (p : Port) (t : Tag) (cut : Prop) : Prop where
  capturing : ¬ cut → ∀ g, (s.context p t = .capturing g ↔
      (s.page g).state = .filling ∧ (s.page g).producer = some ⟨p, t⟩) ∧
    (s.context p t = .capturing g →
      ∃ st, (s.page g).stream = some st ∧ (s.stream st).binding = some ⟨p, t⟩)
  none : cut → ∀ g, (s.page g).state = .filling → (s.page g).producer ≠ some ⟨p, t⟩

/-- The page pool, the ready lists, the holders and the contexts agree, but for the streams whose evaluation is due
and the contexts that are cut. -/
structure PoolSound (cut : Port → Tag → Prop) (due : StreamNo → Prop) (s : State) : Prop where
  freeList : FreeListExact s
  pages : PagesWellKept s
  holders : HoldersExact s
  streamPages : ∀ st, StreamPagesExact s st
  counts : ∀ st, CountFits s st (due st)
  contexts : ∀ p t, ContextFits s p t (cut p t)

/-- No context is cut. -/
abbrev uncut : Port → Tag → Prop := fun _ _ => False

/-- No evaluation is due. -/
abbrev noneDue : StreamNo → Prop := fun _ => False

theorem Coherent.poolSound {s : State} (h : Coherent s) : PoolSound uncut noneDue s where
  freeList := h.freeList
  pages := h.pages
  holders := h.holders
  streamPages := h.streamPages
  counts st := by
    obtain ⟨within, closed, draining⟩ := h.streamCounts st
    exact ⟨within, closed, fun d => ⟨(draining d).2.1, fun _ => ⟨(draining d).1, (draining d).2.2⟩⟩⟩
  contexts p t := ⟨fun _ g => h.contexts p t g, fun no => no.elim⟩

/-- With nothing cut or due, and the relations of the other records, the state is coherent. -/
theorem PoolSound.coherent {s : State} (h : PoolSound uncut noneDue s) (commitments : CommitmentsFit s)
    (relations : RelationsHold s) (egresses : EgressesWellKept s) : Coherent s where
  freeList := h.freeList
  pages := h.pages
  holders := h.holders
  commitments := commitments
  bindings := relations.bindings
  streamPages := h.streamPages
  streamCounts st := by
    obtain ⟨within, closed, draining⟩ := h.counts st
    exact ⟨within, closed, fun d => ⟨((draining d).2 id).1, (draining d).1, ((draining d).2 id).2⟩⟩
  contexts p t g := (h.contexts p t).capturing id g
  egresses := egresses
  followers := relations.followers
  subscriptions := relations.subscriptions

theorem PoolSound.due_mono {cut : Port → Tag → Prop} {due later : StreamNo → Prop} {s : State}
    (h : PoolSound cut due s) (le : ∀ st, due st → later st) : PoolSound cut later s :=
  { h with counts := fun st =>
      ⟨(h.counts st).within, (h.counts st).closed, fun d =>
        ⟨((h.counts st).draining d).1, fun no => ((h.counts st).draining d).2 fun is => no (le st is)⟩⟩ }

/-! ### Changes of no consequence for the pool -/

/-- The fields of a page that the relations speak of. -/
structure PageAlike (r r' : Page) : Prop where
  state : r'.state = r.state
  stream : r'.stream = r.stream
  producer : r'.producer = r.producer
  sequence : r'.sequence = r.sequence
  holders : r'.holders = r.holders
  holdCount : r'.holdCount = r.holdCount

theorem PageAlike.refl (r : Page) : PageAlike r r := ⟨rfl, rfl, rfl, rfl, rfl, rfl⟩

/-- The fields of a stream that the relations speak of; of its state only whether it is CLOSED or DRAINING. -/
structure StreamAlike (r r' : Stream) : Prop where
  closed : r'.state = .closed ↔ r.state = .closed
  draining : r'.state = .draining ↔ r.state = .draining
  ready : r'.ready = r.ready
  filling : r'.filling = r.filling
  binding : r'.binding = r.binding
  quota : r'.quota = r.quota

theorem StreamAlike.refl (r : Stream) : StreamAlike r r := ⟨.rfl, .rfl, rfl, rfl, rfl, rfl⟩

/-- A change that no relation of the pool speaks of. -/
structure Alike (s t : State) : Prop where
  page : ∀ g, PageAlike (s.page g) (t.page g)
  stream : ∀ st, StreamAlike (s.stream st) (t.stream st)
  held : ∀ p, (t.egress p).held = (s.egress p).held
  pin : ∀ p, t.pin p = s.pin p
  context : ∀ p tg, t.context p tg = s.context p tg

theorem Alike.pageCount {s t : State} (h : Alike s t) (st : StreamNo) : pageCount t st = pageCount s st :=
  List.countP_congr fun g _ => by rw [(h.page g).stream, (h.page g).state]

theorem PoolSound.of_alike {cut : Port → Tag → Prop} {due : StreamNo → Prop} {x : Exempt} {s t : State}
    (h : PoolSound cut due s) (alike : Alike s t) (upkeep : Upkeep x s t) : PoolSound cut due t where
  freeList := upkeep.freeList h.freeList
  pages := upkeep.pages h.pages
  holders g p := by
    rw [(alike.page g).holders, alike.held, alike.pin]
    exact h.holders g p
  streamPages st := by
    simp only [StreamPagesExact, (alike.stream st).ready, (alike.stream st).filling, (alike.page _).state,
      (alike.page _).stream, (alike.page _).sequence]
    exact h.streamPages st
  counts st := by
    refine ⟨?_, ?_, ?_⟩
    all_goals
      simp only [alike.pageCount, (alike.stream st).quota, (alike.stream st).closed, (alike.stream st).draining,
        (alike.stream st).ready, (alike.stream st).filling, (alike.page _).holdCount]
    · exact (h.counts st).within
    · exact (h.counts st).closed
    · exact (h.counts st).draining
  contexts p tg := by
    refine ⟨?_, ?_⟩
    all_goals
      simp only [alike.context, (alike.page _).state, (alike.page _).stream, (alike.page _).producer,
        (alike.stream _).binding]
    · exact (h.contexts p tg).capturing
    · exact (h.contexts p tg).none

/-! ### Holders (R12) -/

/-- The slot of a holder: an egress's held page or a port's pin. -/
def Holder.slot (s : State) : Holder → Option PageNo
  | .egress p => (s.egress p).held
  | .pin p => s.pin p

theorem Holder.bit_injective {h k : Holder} (same : h.bit = k.bit) : h = k := by
  cases h with
  | egress p => cases k with
    | egress q => simpa [Holder.bit, Fin.ext_iff] using same
    | pin q =>
      have := Fin.val_eq_of_eq same
      simp only [Holder.bit] at this
      omega
  | pin p => cases k with
    | egress q =>
      have := Fin.val_eq_of_eq same
      simp only [Holder.bit] at this
      omega
    | pin q => simpa [Holder.bit, Fin.ext_iff] using same

theorem holdersExact_iff (s : State) :
    HoldersExact s ↔ ∀ g (h : Holder), hasMember (s.page g).holders h.bit = true ↔ h.slot s = some g := by
  constructor
  · intro exact g h
    cases h with
    | egress p => exact (exact g p).1
    | pin p => exact (exact g p).2
  · exact fun all g p => ⟨all g (.egress p), all g (.pin p)⟩

/-- Every bit of a holders set is some holder's. -/
theorem exists_holder_bit (b : Fin 8) : ∃ h : Holder, h.bit = b := by
  by_cases low : b.val < 4
  · exact ⟨.egress ⟨b.val, low⟩, rfl⟩
  · exact ⟨.pin ⟨b.val - 4, by omega⟩, Fin.ext (by simp only [Holder.bit]; omega)⟩

/-- In no slot: unheld. -/
theorem PoolSound.slot_ne {cut : Port → Tag → Prop} {due : StreamNo → Prop} {s : State} (h : PoolSound cut due s)
    {g : PageNo} (unheld : (s.page g).holdCount = 0) (k : Holder) : k.slot s ≠ some g := by
  have none : (s.page g).holders = 0#8 := by
    rw [← countMembers_eq_zero_iff, ← (h.pages g).2.2.2.1, unheld]
  intro held
  have member := ((holdersExact_iff s).1 h.holders g k).2 held
  rw [none, hasMember_zero] at member
  exact absurd member Bool.false_ne_true

/-! ### Frees of READY pages and the end of a drain (R15, R37) -/

section frees

variable {st : StreamNo} {l : List PageNo} {s t : State}

theorem FreesPages.pageCount_ne (frees : FreesPages st l s t) (unheld : ∀ g ∈ l, UnheldOf s st g) {n : StreamNo}
    (other : n ≠ st) : pageCount t n = pageCount s n := by
  refine List.countP_congr fun g _ => ?_
  rw [frees.page]
  split
  · next mem => simp [Page.cleared, (unheld g mem).stream, other.symm]
  · rfl

theorem FreesPages.pageCount_add (frees : FreesPages st l s t) (nodup : l.Nodup)
    (unheld : ∀ g ∈ l, UnheldOf s st g) : pageCount t st + l.length = pageCount s st := by
  rw [pageCount_eq_card, pageCount_eq_card, ← List.toFinset_card_of_nodup nodup, ← Finset.card_union_of_disjoint]
  · congr 1
    ext g
    by_cases mem : g ∈ l
    · simp [frees.page, mem, (unheld g mem).stream, (unheld g mem).ready]
    · simp [frees.page, mem]
  · rw [Finset.disjoint_left]
    intro g counted mem
    rw [List.mem_toFinset] at mem
    simp [frees.page, mem, Page.cleared] at counted

theorem PoolSound.freesPages {cut : Port → Tag → Prop} {due : StreamNo → Prop} {x : Exempt} (h : PoolSound cut due s)
    (frees : FreesPages st l s t) (nodup : l.Nodup) (unheld : ∀ g ∈ l, UnheldOf s st g) (pool : PoolOnly s t)
    (upkeep : Upkeep x s t) : PoolSound cut (fun n => due n ∨ n = st) t := by
  have slot : ∀ k : Holder, k.slot t = k.slot s := fun k => by
    cases k with
    | egress p => simp [Holder.slot, pool.egress]
    | pin p => simp [Holder.slot, pool.pin]
  have binding : ∀ n, (t.stream n).binding = (s.stream n).binding := fun n => by
    by_cases same : n = st
    · rw [same, frees.stream]
    · rw [frees.others n same]
  have filling : ∀ n, (t.stream n).filling = (s.stream n).filling := fun n => by
    by_cases same : n = st
    · rw [same, frees.stream]
    · rw [frees.others n same]
  have isFilling : ∀ g, (t.page g).state = .filling ↔ (s.page g).state = .filling := fun g => by
    rw [frees.page]
    split
    · next mem => simp [Page.cleared, (unheld g mem).ready]
    · rfl
  have same : ∀ g, (s.page g).state = .filling → t.page g = s.page g := fun g is => by
    rw [frees.page, if_neg fun mem => by simp [(unheld g mem).ready] at is]
  have ready : ∀ n, (t.stream n).ready = (s.stream n).ready.filter fun e => decide (e.page ∉ l) := fun n => by
    by_cases same : n = st
    · rw [same, frees.stream]
    · rw [frees.others n same]
      have others : ∀ e ∈ (s.stream n).ready, e.page ∉ l := fun e he mem => same <| by
        have stream := ((h.streamPages n).2.1 e he).2.1
        rw [(unheld _ mem).stream] at stream
        exact (Option.some.inj stream).symm
      exact (List.filter_eq_self.2 fun e he => decide_eq_true (others e he)).symm
  refine ⟨upkeep.freeList h.freeList, upkeep.pages h.pages, (holdersExact_iff t).2 fun g k => ?_, fun n => ?_,
    fun n => ?_, fun p tg => ⟨fun no g => ?_, fun is g hg => ?_⟩⟩
  · rw [frees.page, slot]
    split
    · next mem => simp [Page.cleared, h.slot_ne (unheld g mem).unheld k]
    · exact (holdersExact_iff s).1 h.holders g k
  · obtain ⟨once, listed, complete, fills⟩ := h.streamPages n
    rw [StreamPagesExact, ready, filling]
    refine ⟨once.sublist (List.filter_sublist.map _), fun e he => ?_, fun g isReady inStream => ?_, fun g => ?_⟩
    · obtain ⟨he, kept⟩ := List.mem_filter.1 he
      rw [frees.page, if_neg (of_decide_eq_true kept)]
      exact listed e he
    · rw [frees.page] at isReady inStream
      split at isReady
      · simp [Page.cleared] at isReady
      · next kept =>
        rw [if_neg kept] at inStream
        obtain ⟨e, he, rfl⟩ := List.mem_map.1 (complete g isReady inStream)
        exact List.mem_map_of_mem (List.mem_filter.2 ⟨he, decide_eq_true kept⟩)
    · rw [fills, isFilling]
      exact and_congr_right fun is => by rw [same g is]
  · obtain ⟨within, closed, draining⟩ := h.counts n
    by_cases own : n = st
    · subst own
      have less := frees.pageCount_add nodup unheld
      refine ⟨?_, fun is => ?_, fun is => ⟨?_, fun no => absurd (.inr rfl) no⟩⟩
      all_goals rw [frees.stream] at *
      · exact (by omega : pageCount t n ≤ pageCount s n).trans within
      · have := closed is
        omega
      · exact (draining is).1
    · refine ⟨?_, ?_, ?_⟩
      all_goals rw [frees.others n own]
      · rw [frees.pageCount_ne unheld own]
        exact within
      · rw [frees.pageCount_ne unheld own]
        exact closed
      · rw [frees.pageCount_ne unheld own]
        refine fun is => ⟨(draining is).1, fun no => ?_⟩
        obtain ⟨some, held⟩ := (draining is).2 fun is => no (.inl is)
        refine ⟨some, fun e he => ?_⟩
        rw [frees.page, if_neg fun mem => ?_]
        · exact held e he
        · have := held e he
          rw [(unheld _ mem).unheld] at this
          exact absurd this (Nat.lt_irrefl 0)
  · rw [pool.context, isFilling]
    obtain ⟨iff, bound⟩ := (h.contexts p tg).capturing no g
    refine ⟨?_, fun capturing => ?_⟩
    · rw [iff]
      exact and_congr_right fun is => by rw [same g is]
    · obtain ⟨n, stream, bind⟩ := bound capturing
      rw [same g (iff.1 capturing).1]
      exact ⟨n, stream, (binding n).trans bind⟩
  · rw [isFilling] at hg
    rw [same g hg]
    exact (h.contexts p tg).none is g hg

end frees

/-! ### One stream record replaced -/

theorem PoolSound.filling_none {cut : Port → Tag → Prop} {due : StreamNo → Prop} {s : State}
    (h : PoolSound cut due s) {st : StreamNo} (empty : pageCount s st = 0) :
    (s.stream st).filling = none ∧ (s.stream st).ready = [] := by
  have none : ∀ g, (s.page g).stream = some st → (s.page g).state = .free := by
    rw [pageCount_eq_card, Finset.card_eq_zero, Finset.filter_eq_empty_iff] at empty
    exact fun g stream => by_contra fun used => empty (Finset.mem_univ g) ⟨stream, used⟩
  obtain ⟨-, listed, -, fills⟩ := h.streamPages st
  constructor
  · refine Option.eq_none_iff_forall_ne_some.2 fun g filling => ?_
    obtain ⟨isFilling, stream⟩ := (fills g).1 filling
    simp [none g stream] at isFilling
  · refine List.eq_nil_iff_forall_not_mem.2 fun e he => ?_
    obtain ⟨isReady, stream, -⟩ := listed e he
    simp [none _ stream] at isReady

/-- A stream record replaced, its page lists kept: only what it says of its page count is to be shown. -/
theorem PoolSound.setStream {cut : Port → Tag → Prop} {due later : StreamNo → Prop} {s : State} {st : StreamNo}
    {r : Stream} (h : PoolSound cut due s) (ready : r.ready = (s.stream st).ready)
    (filling : r.filling = (s.stream st).filling)
    (binding : r.binding = (s.stream st).binding ∨ (s.stream st).filling = none)
    (le : ∀ n, n ≠ st → due n → later n) (counts : CountFits (s.setStream st r) st (later st)) :
    PoolSound cut later (s.setStream st r) where
  freeList := h.freeList
  pages := h.pages
  holders := h.holders
  streamPages n := by
    by_cases own : n = st
    · subst own
      simp only [StreamPagesExact, State.setStream_stream_self, ready, filling]
      exact h.streamPages n
    · simp only [StreamPagesExact, State.setStream_stream_ne _ _ (Ne.symm own)]
      exact h.streamPages n
  counts n := by
    by_cases own : n = st
    · rw [own]
      exact counts
    · obtain ⟨within, closed, draining⟩ := h.counts n
      refine ⟨?_, ?_, ?_⟩
      all_goals rw [State.setStream_stream_ne _ _ (Ne.symm own)]
      · exact within
      · exact closed
      · exact fun is => ⟨(draining is).1, fun no => (draining is).2 fun is => no (le n own is)⟩
  contexts p tg := by
    refine ⟨fun no g => ⟨((h.contexts p tg).capturing no g).1, fun capturing => ?_⟩, (h.contexts p tg).none⟩
    obtain ⟨iff, bound⟩ := (h.contexts p tg).capturing no g
    obtain ⟨n, stream, bind⟩ := bound capturing
    refine ⟨n, stream, ?_⟩
    by_cases own : n = st
    · subst own
      have fills := ((h.streamPages n).2.2.2 g).2 ⟨(iff.1 capturing).1, stream⟩
      rw [State.setStream_stream_self, binding.resolve_right (by simp [fills])]
      exact bind
    · rwa [State.setStream_stream_ne _ _ (Ne.symm own)]

theorem Alike.raiseOwn (n : OwnNotice) (st : StreamNo) (s : State) : Alike s (raiseOwn n st s) where
  page g := by
    rw [raiseOwn_page]
    exact .refl _
  stream m := by
    rw [raiseOwn_stream]
    exact .refl _
  held p := by rw [(PoolOnly.raiseOwn n st s).egress]
  pin p := (PoolOnly.raiseOwn n st s).pin p
  context p tg := (PoolOnly.raiseOwn n st s).context p tg

/-- A stream left without pages is closed (R37). -/
theorem PoolSound.reachClosed {cut : Port → Tag → Prop} {due : StreamNo → Prop} {s : State} {st : StreamNo}
    (h : PoolSound cut due s) (empty : pageCount s st = 0) :
    PoolSound cut (fun n => due n ∧ n ≠ st) (reachClosed st s) := by
  have raised := h.of_alike (.raiseOwn .drained st s) (Upkeep.raiseOwn (x := {}) .drained st s)
  have none : pageCount (raiseOwn .drained st s) st = 0 := (Alike.raiseOwn .drained st s).pageCount st ▸ empty
  have same : ∀ r, pageCount ((raiseOwn .drained st s).setStream st r) st = 0 := fun _ => none
  refine raised.setStream rfl rfl (.inl rfl) (fun n other is => ⟨is, other⟩) ⟨?_, fun _ => same _, fun draining => ?_⟩
  · rw [same]
    exact Nat.zero_le _
  · simp at draining

/-- With every page that a DRAINING stream still lists held, its drain goes on or ends (R37, R89). -/
theorem PoolSound.endDrain {cut : Port → Tag → Prop} {due : StreamNo → Prop} {s : State} {st : StreamNo}
    (h : PoolSound cut due s)
    (held : (s.stream st).state = .draining → ∀ e ∈ (s.stream st).ready, 0 < (s.page e.page).holdCount) :
    PoolSound cut (fun n => due n ∧ n ≠ st) (endDrain st s) := by
  unfold Machine.endDrain
  split
  · next ends => exact h.reachClosed ends.2
  · next goesOn =>
    refine { h with counts := fun n => ⟨(h.counts n).within, (h.counts n).closed, fun draining => ?_⟩ }
    obtain ⟨filling, rest⟩ := (h.counts n).draining draining
    refine ⟨filling, fun no => ?_⟩
    by_cases own : n = st
    · subst own
      exact ⟨Nat.pos_of_ne_zero fun empty => goesOn ⟨draining, empty⟩, held draining⟩
    · exact rest fun is => no ⟨is, own⟩

/-- An evaluation keeps the pool sound, and is no longer due (R86 to R89). -/
theorem PoolSound.evaluateRelease {cut : Port → Tag → Prop} {due : StreamNo → Prop} {s : State}
    (h : PoolSound cut due s) (st : StreamNo) :
    PoolSound cut (fun n => due n ∧ n ≠ st) (evaluateRelease st s) := by
  have exact := h.streamPages st
  have frees := freesPages_freedPages exact
  have freed := h.freesPages frees (freedPages_nodup exact)
    (unheldOf_of_mem_freedPages exact) (.freeAll ..) (Upkeep.freeAll (x := {}) ..)
  rw [evaluateRelease_eq exact]
  refine (freed.endDrain fun draining e he => ?_).due_mono fun n is => ⟨is.1.resolve_right is.2, is.2⟩
  rw [frees.stream] at draining he
  obtain ⟨he, kept⟩ := List.mem_filter.1 he
  have kept := of_decide_eq_true kept
  rw [frees.page, if_neg kept]
  exact Nat.pos_of_ne_zero fun unheld => kept ((page_mem_freedPages_iff exact he).2 ⟨.inl draining, unheld⟩)

/-! ### Holds taken and given up (R12, R13) -/

/-- Pages changed in nothing but their holds. -/
theorem PoolSound.of_holds {cut : Port → Tag → Prop} {due later : StreamNo → Prop} {x : Exempt} {s t : State}
    (h : PoolSound cut due s)
    (page : ∀ g, ∃ holders holdCount viewed,
      t.page g = { s.page g with holders := holders, holdCount := holdCount, viewed := viewed })
    (streams : t.streams = s.streams) (context : ∀ p tg, t.context p tg = s.context p tg) (holders : HoldersExact t)
    (held : ∀ n, ¬ later n → ¬ due n ∧
      ∀ g, (s.page g).stream = some n → 0 < (s.page g).holdCount → 0 < (t.page g).holdCount)
    (upkeep : Upkeep x s t) : PoolSound cut later t := by
  have stream : ∀ n, t.stream n = s.stream n := fun n => by simp [State.stream, streams]
  have state : ∀ g, (t.page g).state = (s.page g).state := fun g => by
    obtain ⟨_, _, _, same⟩ := page g
    rw [same]
  have inStream : ∀ g, (t.page g).stream = (s.page g).stream := fun g => by
    obtain ⟨_, _, _, same⟩ := page g
    rw [same]
  have producer : ∀ g, (t.page g).producer = (s.page g).producer := fun g => by
    obtain ⟨_, _, _, same⟩ := page g
    rw [same]
  have sequence : ∀ g, (t.page g).sequence = (s.page g).sequence := fun g => by
    obtain ⟨_, _, _, same⟩ := page g
    rw [same]
  have count : ∀ n, pageCount t n = pageCount s n := fun n =>
    List.countP_congr fun g _ => by rw [inStream, state]
  refine ⟨upkeep.freeList h.freeList, upkeep.pages h.pages, holders, fun n => ?_, fun n => ?_, fun p tg => ?_⟩
  · simp only [StreamPagesExact, stream, state, inStream, sequence]
    exact h.streamPages n
  · refine ⟨?_, ?_, ?_⟩
    all_goals rw [stream, count]
    · exact (h.counts n).within
    · exact (h.counts n).closed
    · intro draining
      obtain ⟨filling, rest⟩ := (h.counts n).draining draining
      refine ⟨filling, fun no => ?_⟩
      obtain ⟨notDue, kept⟩ := held n no
      obtain ⟨some, isHeld⟩ := rest notDue
      exact ⟨some, fun e he => kept e.page ((h.streamPages n).2.1 e he).2.1 (isHeld e he)⟩
  · refine ⟨?_, ?_⟩
    all_goals simp only [context, state, producer, inStream, stream]
    · exact (h.contexts p tg).capturing
    · exact (h.contexts p tg).none

/-- `t` is `s` with the slot of `k` set to `v`; pages, streams and contexts stay. -/
structure SlotSet (k : Holder) (v : Option PageNo) (s t : State) : Prop where
  slot : k.slot t = v
  others : ∀ j : Holder, j ≠ k → j.slot t = j.slot s
  pages : t.pages = s.pages
  streams : t.streams = s.streams
  freeList : t.freeList = s.freeList
  context : ∀ p tg, t.context p tg = s.context p tg

theorem slotSet_setEgress (p : Port) (s : State) (e : Egress) : SlotSet (.egress p) e.held s (s.setEgress p e) := by
  refine ⟨?_, fun j other => ?_, rfl, rfl, rfl, fun _ _ => rfl⟩
  · rw [Holder.slot, State.setEgress_egress_self]
  · cases j with
    | egress q => rw [Holder.slot, State.setEgress_egress_ne _ _ fun same => other (congrArg _ same.symm), Holder.slot]
    | pin q => rfl

theorem slotSet_setPin (p : Port) (s : State) (v : Option PageNo) : SlotSet (.pin p) v s (s.setPin p v) := by
  refine ⟨?_, fun j other => ?_, rfl, rfl, rfl, fun _ _ => rfl⟩
  · rw [Holder.slot, State.setPin_pin_self]
  · cases j with
    | egress q => rfl
    | pin q => rw [Holder.slot, State.setPin_pin_ne _ _ fun same => other (congrArg _ same.symm), Holder.slot]

theorem SlotSet.page {k : Holder} {v : Option PageNo} {s t : State} (h : SlotSet k v s t) (g : PageNo) :
    t.page g = s.page g := by simp [State.page, h.pages]

theorem SlotSet.stream {k : Holder} {v : Option PageNo} {s t : State} (h : SlotSet k v s t) (n : StreamNo) :
    t.stream n = s.stream n := by simp [State.stream, h.streams]

theorem slot_setPage (k : Holder) (s : State) (g : PageNo) (r : Page) : k.slot (s.setPage g r) = k.slot s := by
  cases k <;> rfl

/-- The record of a held page with one hold given up. -/
theorem PoolSound.unhold {cut : Port → Tag → Prop} {due : StreamNo → Prop} {x : Exempt} {k : Holder} {g : PageNo}
    {s t : State} (h : PoolSound cut due s) (held : k.slot s = some g) (set : SlotSet k none s t)
    (upkeep : Upkeep x s (t.setPage g ((s.page g).unhold k))) :
    PoolSound cut (fun n => due n ∨ (s.page g).stream = some n) (t.setPage g ((s.page g).unhold k)) := by
  refine h.of_holds (fun a => ?_) set.streams set.context ((holdersExact_iff _).2 fun a j => ?_) (fun n no => ?_) upkeep
  · by_cases own : g = a
    · subst own
      exact ⟨_, _, _, State.setPage_page_self ..⟩
    · exact ⟨_, _, _, (State.setPage_page_ne _ _ own).trans (set.page a)⟩
  · rw [slot_setPage, State.setPage_page, set.page]
    have before := (holdersExact_iff s).1 h.holders
    by_cases own : g = a
    · subst own
      rw [if_pos rfl, Page.unhold, hasMember_dropMember, Bool.and_eq_true, before g j]
      by_cases same : j = k
      · subst same
        simp [set.slot]
      · have bits : j.bit ≠ k.bit := fun bit => same (Holder.bit_injective bit)
        simp [set.others j same, bits]
    · rw [if_neg own, before a j]
      by_cases same : j = k
      · subst same
        simp [set.slot, held, own]
      · rw [set.others j same]
  · rw [not_or] at no
    refine ⟨no.1, fun a stream some => ?_⟩
    rw [State.setPage_page_ne _ _ fun own : g = a => no.2 (own ▸ stream), set.page]
    exact some

/-- A page in a slot is READY and has a stream (R12). -/
theorem PoolSound.held_page {cut : Port → Tag → Prop} {due : StreamNo → Prop} {k : Holder} {g : PageNo} {s : State}
    (h : PoolSound cut due s) (held : k.slot s = some g) :
    hasMember (s.page g).holders k.bit = true ∧ (s.page g).state = .ready ∧ ∃ st, (s.page g).stream = some st := by
  have member := ((holdersExact_iff s).1 h.holders g k).2 held
  have ready := (h.pages g).ready_of_holder member
  exact ⟨member, ready, Option.isSome_iff_exists.1 ((h.pages g).2.2.1.2.1 (by simp [ready])).1⟩

/-- A hold given up after its slot was emptied: an evaluation for the page's stream (R13). -/
theorem releaseHold_eq {k : Holder} {g : PageNo} {st : StreamNo} {t : State}
    (member : hasMember (t.page g).holders k.bit = true) (stream : (t.page g).stream = some st) :
    releaseHold k g t = evaluateRelease st (t.setPage g ((t.page g).unhold k)) := by
  rw [releaseHold, if_pos member, evaluateReleaseOf]
  simp only [State.modPage_eq, State.setPage_page_self, Page.unhold, stream]

theorem PoolSound.releaseHold {cut : Port → Tag → Prop} {due : StreamNo → Prop} {x : Exempt} {k : Holder}
    {g : PageNo} {s t : State} (h : PoolSound cut due s) (held : k.slot s = some g) (set : SlotSet k none s t)
    (upkeep : Upkeep x s t) : PoolSound cut due (releaseHold k g t) := by
  obtain ⟨member, ready, st, stream⟩ := h.held_page held
  rw [← set.page g] at member stream
  have kept : Upkeep x t (t.setPage g ((t.page g).unhold k)) :=
    .setPage (fun pages => (pages g).unhold member) (by rfl)
  rw [releaseHold_eq member stream]
  rw [set.page g] at kept ⊢
  refine ((h.unhold held set (upkeep.trans kept)).evaluateRelease st).due_mono fun n is => is.1.resolve_right ?_
  rw [← set.page g, stream]
  exact fun same => is.2 (Option.some.inj same).symm

theorem PoolSound.dropHeld {cut : Port → Tag → Prop} {due : StreamNo → Prop} {s : State} (h : PoolSound cut due s)
    (p : Port) : PoolSound cut due (dropHeld p s) := by
  cases held : (s.egress p).held with
  | none => rwa [dropHeld_of_none held]
  | some g =>
    rw [dropHeld_of_held held]
    exact h.releaseHold (k := .egress p) (x := { egress := fun _ => True }) held
      (slotSet_setEgress p s { s.egress p with held := none })
      (.setEgress trivial _ _)

theorem PoolSound.dropPin {cut : Port → Tag → Prop} {due : StreamNo → Prop} {s : State} (h : PoolSound cut due s)
    (p : Port) : PoolSound cut due (dropPin p s) := by
  unfold Machine.dropPin
  split
  · exact h
  · next g held =>
    exact h.releaseHold (k := .pin p) (x := { pin := fun _ => True }) held (slotSet_setPin ..) (.setPin trivial _ _)

theorem Page.hold_eq (r : Page) (k : Holder) : ∃ holders holdCount viewed,
    r.hold k = { r with holders := holders, holdCount := holdCount, viewed := viewed } := by
  unfold Page.hold
  split
  · exact ⟨r.holders, r.holdCount, r.viewed, rfl⟩
  · exact ⟨_, _, _, rfl⟩

theorem hasMember_hold (r : Page) (k j : Holder) :
    hasMember (r.hold k).holders j.bit = (hasMember r.holders j.bit || decide (j = k)) := by
  have bits : j.bit = k.bit ↔ j = k := ⟨Holder.bit_injective, congrArg _⟩
  unfold Page.hold
  split
  · next member =>
    by_cases same : j = k
    · simp [same, member]
    · simp [same]
  · rw [hasMember_addMember]
    simp [bits]

theorem takeHold_eq_hold {k : Holder} {g : PageNo} {s : State} (ready : (s.page g).state = .ready) :
    takeHold k g s = s.setPage g ((s.page g).hold k) := if_pos ready

/-- A hold taken and put into its slot, which was empty or had the page already (R12). -/
theorem PoolSound.hold {cut : Port → Tag → Prop} {due : StreamNo → Prop} {x : Exempt} {k : Holder} {g : PageNo}
    {s t : State} (h : PoolSound cut due s) (ready : (s.page g).state = .ready)
    (free : k.slot s = none ∨ k.slot s = some g) (set : SlotSet k (some g) (takeHold k g s) t)
    (upkeep : Upkeep x s t) : PoolSound cut due t := by
  rw [takeHold_eq_hold ready] at set
  refine h.of_holds (fun a => ?_) set.streams set.context ((holdersExact_iff _).2 fun a j => ?_)
    (fun n no => ⟨no, fun a _ some => ?_⟩) upkeep
  · by_cases own : g = a
    · subst own
      rw [set.page, State.setPage_page_self]
      exact Page.hold_eq ..
    · exact ⟨_, _, _, (set.page a).trans (State.setPage_page_ne _ _ own)⟩
  · have before := (holdersExact_iff s).1 h.holders
    rw [set.page, State.setPage_page]
    by_cases same : j = k
    · subst same
      rw [set.slot]
      by_cases own : g = a
      · subst own
        simp [hasMember_hold]
      · rw [if_neg own, before a j]
        obtain none | some := free <;> simp [*]
    · rw [set.others j same, slot_setPage, ← before a j]
      by_cases own : g = a
      · subst own
        simp [hasMember_hold, same]
      · rw [if_neg own]
  · rw [set.page, State.setPage_page]
    split
    · next own =>
      subst own
      unfold Page.hold
      split
      · exact some
      · exact Nat.succ_pos _
    · exact some

end Sys2Proof.Machine

/-! Holds given up in a coherent state: when the page is freed and when a drain ends (R13, R37, R86 to R89, R116,
R120, R148). -/

namespace Sys2Proof.Machine

/-- The rules read the stream and the cursors. -/
theorem ruleCallsFor_congr {s u : State} {st : StreamNo} (stream : u.stream st = s.stream st)
    (cursor : ∀ j, (u.egress j).cursor = (s.egress j).cursor) (e : ReadyEntry) :
    RuleCallsFor u st e ↔ RuleCallsFor s st e := by
  simp only [RuleCallsFor, PassedByEverySubscriber, stream, cursor]

/-- The state after a hold of `k` on page `g` of stream `st` is given up, its evaluation still to come. -/
structure Unheld (k : Holder) (g : PageNo) (st : StreamNo) (s u : State) : Prop where
  sound : PoolSound uncut noneDue s
  held : k.slot s = some g
  stream : (s.page g).stream = some st
  page : ∀ a, u.page a = if a = g then (s.page g).unhold k else s.page a
  streams : u.streams = s.streams
  freeList : u.freeList = s.freeList
  notices : u.notices = s.notices
  cursor : ∀ j, (u.egress j).cursor = (s.egress j).cursor
  exact : StreamPagesExact u st

namespace Unheld

variable {k : Holder} {g : PageNo} {st : StreamNo} {s u : State}

theorem of_slotSet {t : State} (sound : PoolSound uncut noneDue s) (held : k.slot s = some g)
    (stream : (s.page g).stream = some st) (set : SlotSet k none s t) (notices : t.notices = s.notices)
    (cursor : ∀ j, (t.egress j).cursor = (s.egress j).cursor) {x : Exempt} (upkeep : Upkeep x s t) :
    Unheld k g st s (t.setPage g ((t.page g).unhold k)) := by
  have member := (sound.held_page held).1
  have kept : Upkeep x t (t.setPage g ((t.page g).unhold k)) :=
    .setPage (fun pages => (pages g).unhold (by rwa [set.page])) (by rfl)
  rw [set.page] at kept ⊢
  refine ⟨sound, held, stream, fun a => ?_, set.streams, set.freeList, notices, cursor,
    (sound.unhold held set (upkeep.trans kept)).streamPages st⟩
  rw [State.setPage_page, set.page]
  simp only [eq_comm]

theorem stream_eq (h : Unheld k g st s u) (n : StreamNo) : u.stream n = s.stream n := by simp [State.stream, h.streams]

theorem holdCount_pos (h : Unheld k g st s u) : 0 < (s.page g).holdCount := by
  have member := (h.sound.held_page h.held).1
  rw [(h.sound.pages g).2.2.2.1]
  refine Nat.pos_of_ne_zero fun none => ?_
  rw [(countMembers_eq_zero_iff _).1 none, hasMember_zero] at member
  exact absurd member Bool.false_ne_true

/-- The page's own entry in its ready list. -/
theorem entry (h : Unheld k g st s u) :
    ∃ e ∈ (s.stream st).ready, e.page = g ∧ (s.page g).sequence = some e.sequence := by
  obtain ⟨-, listed, complete, -⟩ := h.sound.streamPages st
  obtain ⟨e, he, same⟩ := List.mem_map.1 (complete g (h.sound.held_page h.held).2.1 h.stream)
  exact ⟨e, he, same, same ▸ (listed e he).2.2⟩

/-- The page is freed exactly when the hold was its last and the rule calls for it (R86 to R89). -/
theorem mem_freedPages (h : Unheld k g st s u) {q : Word32} (sequence : (s.page g).sequence = some q) :
    g ∈ freedPages u st ↔ (s.page g).holdCount = 1 ∧ RuleCallsFor s st ⟨g, q⟩ := by
  obtain ⟨⟨page, own⟩, he, rfl, seq⟩ := h.entry
  obtain rfl : own = q := Option.some.inj (seq.symm.trans sequence)
  rw [page_mem_freedPages_iff h.exact (e := ⟨page, own⟩) (by rwa [h.stream_eq]), EvaluationFrees,
    ruleCallsFor_congr (h.stream_eq st) h.cursor, h.page, if_pos rfl, and_comm]
  refine and_congr_left fun _ => ?_
  have pos := h.holdCount_pos
  change (s.page page).holdCount - 1 = 0 ↔ (s.page page).holdCount = 1
  change 0 < (s.page page).holdCount at pos
  omega

/-- In a drain every other listed page is held, and the page goes with its last hold (R36, R89). -/
theorem length_freedPages (h : Unheld k g st s u) (draining : (s.stream st).state = .draining) :
    (freedPages u st).length = if (s.page g).holdCount = 1 then 1 else 0 := by
  obtain ⟨e, he, rfl, sequence⟩ := h.entry
  have own : e.page ∈ freedPages u st ↔ (s.page e.page).holdCount = 1 := by
    rw [h.mem_freedPages sequence]
    exact and_iff_left (.inl draining)
  have others : ∀ a ∈ freedPages u st, a = e.page := fun a mem => by
    obtain ⟨x, hx, rfl, -, unheld⟩ := mem_freedPages_iff.1 mem
    rw [h.stream_eq] at hx
    refine by_contra fun other => ?_
    rw [h.page, if_neg other] at unheld
    have := (((h.sound.counts st).draining draining).2 id).2 x hx
    omega
  split
  · next last =>
    have most : (freedPages u st).length ≤ 1 := by
      have nodup := freedPages_nodup h.exact
      rwa [List.eq_replicate_length.2 others, List.nodup_replicate] at nodup
    exact Nat.le_antisymm most (List.length_pos_of_mem (own.2 last))
  · next more =>
    rw [List.length_eq_zero_iff, List.eq_nil_iff_forall_not_mem]
    exact fun a mem => more (own.1 (others a mem ▸ mem))

theorem released (h : Unheld k g st s u) : Released st u (evaluateRelease st u) := released_evaluateRelease h.exact

theorem page_self (h : Unheld k g st s u) {q : Word32} (sequence : (s.page g).sequence = some q) :
    (evaluateRelease st u).page g =
      if (s.page g).holdCount = 1 ∧ RuleCallsFor s st ⟨g, q⟩ then Page.cleared else (s.page g).unhold k := by
  rw [h.released.page, h.page, if_pos rfl]
  simp only [h.mem_freedPages sequence]

theorem mem_freeList (h : Unheld k g st s u) {q : Word32} (sequence : (s.page g).sequence = some q) :
    g ∈ (evaluateRelease st u).freeList ↔ (s.page g).holdCount = 1 ∧ RuleCallsFor s st ⟨g, q⟩ := by
  have used : g ∉ s.freeList := fun mem => by
    have free := (h.sound.freeList.2 g).1 mem
    simp [(h.sound.held_page h.held).2.1] at free
  rw [h.released.freeList, List.mem_append, h.freeList, h.mem_freedPages sequence]
  simp [used]

theorem pageCount_eq (h : Unheld k g st s u) : pageCount u st = pageCount s st :=
  List.countP_congr fun a _ => by
    rw [h.page]
    split
    · next own =>
      subst own
      rfl
    · rfl

/-- A drain ends when its last page goes with its last hold (R37, R89). -/
theorem pageCount_eq_zero_iff (h : Unheld k g st s u) (draining : (s.stream st).state = .draining) :
    pageCount (evaluateRelease st u) st = 0 ↔ (s.page g).holdCount = 1 ∧ pageCount s st = 1 := by
  have some : 0 < pageCount s st := (((h.sound.counts st).draining draining).2 id).1
  have pages : ∀ a, (evaluateRelease st u).page a = (freeAll (freedPages u st) u).page a := fun a => by
    rw [h.released.page, (freesPages_freedPages h.exact).page]
  have count : pageCount (evaluateRelease st u) st = pageCount (freeAll (freedPages u st) u) st :=
    List.countP_congr fun a _ => by rw [pages]
  have add := (freesPages_freedPages h.exact).pageCount_add (freedPages_nodup h.exact)
    (unheldOf_of_mem_freedPages h.exact)
  rw [h.length_freedPages draining, h.pageCount_eq, ← count] at add
  split at add
  · next last => simp only [last, true_and]; omega
  · next more => simp only [more, false_and, iff_false]; omega

end Unheld

theorem exec_unpin {p : Port} {s : State} (out : s.inReset = none) :
    exec (.unpin p) s = .next ((dropPin p s).acked p (optionalNumber (s.pin p))) := by
  change onLink p s _ = _
  rw [onLink, out]
  rfl

/-- A pin given up, in the state that `Unheld` speaks of. -/
theorem dropPin_eq {p : Port} {g : PageNo} {st : StreamNo} {s : State} (pinned : s.pin p = some g)
    (member : hasMember (s.page g).holders (Holder.pin p).bit = true) (stream : (s.page g).stream = some st) :
    dropPin p s = evaluateRelease st ((s.setPin p none).setPage g ((s.page g).unhold (.pin p))) := by
  simp only [dropPin, pinned]
  exact releaseHold_eq (t := s.setPin p none) member stream

theorem unheld_setPin {p : Port} {g : PageNo} {st : StreamNo} {s : State} (sound : PoolSound uncut noneDue s)
    (pinned : s.pin p = some g) (stream : (s.page g).stream = some st) :
    Unheld (.pin p) g st s ((s.setPin p none).setPage g ((s.page g).unhold (.pin p))) :=
  .of_slotSet sound pinned stream (slotSet_setPin p s none) rfl (fun _ => rfl)
    (Upkeep.setPin (x := { pin := fun _ => True }) trivial none s)

theorem Released.state {st : StreamNo} {s t : State} (h : Released st s t) :
    (t.stream st).state = if (s.stream st).state = .draining ∧ pageCount t st = 0 then .closed
      else (s.stream st).state := by
  rw [h.stream]

theorem Released.owner {st : StreamNo} {s t : State} (h : Released st s t) :
    (t.stream st).owner = if (s.stream st).state = .draining ∧ pageCount t st = 0 then none
      else (s.stream st).owner := by
  rw [h.stream]

/-- Settles O39: the release of `Unheld` after the pin slot is emptied. -/
theorem unpinGivesUpTheHold : Obligations.UnpinGivesUpTheHold := by
  intro p s out
  refine ⟨fun empty => ?_, fun g pinned coherent => ?_⟩
  · rw [exec_unpin out, dropPin, empty]
    rfl
  have sound := coherent.poolSound
  obtain ⟨member, ready, u, inStream⟩ := sound.held_page (k := .pin p) pinned
  have kept : Upkeep { pin := fun q => q = p } s (dropPin p s) := .dropPin rfl s
  refine ⟨_, exec_unpin out, ?_, ?_, fun st q stream sequence => ?_, fun q other => kept.within.pin q other,
    Table.ext fun q => kept.within.egress q id, Table.ext fun q => kept.within.capture q id,
    kept.within.frameStore id⟩
  · rw [pinned]
    simp [State.acked, optionalNumber, optional, byteOf]
  · change (dropPin p s).pin p = none
    rw [dropPin_eq pinned member inStream, (PoolOnly.evaluateRelease ..).pin]
    exact State.setPin_pin_self ..
  · obtain rfl : u = st := Option.some.inj (inStream.symm.trans stream)
    have unheld := unheld_setPin sound pinned inStream
    have drop := dropPin_eq pinned member inStream
    have released := unheld.released
    have ends := unheld.pageCount_eq_zero_iff
    have page := unheld.page_self sequence
    have freeList := unheld.mem_freeList sequence
    rw [← drop] at released ends page freeList
    refine ⟨page, fun last called => freeList.2 ⟨last, called⟩, fun no mem => ?_, fun draining last one => ?_,
      fun goesOn => ?_, fun n other => (released.others n other).trans (unheld.stream_eq n)⟩
    · obtain ⟨last, called⟩ := freeList.1 mem
      exact no.elim (· last) (· called)
    · have empty := (ends draining).2 ⟨last, one⟩
      refine ⟨?_, ?_, fun o owner => ?_⟩
      · exact released.state.trans (by rw [unheld.stream_eq, if_pos ⟨draining, empty⟩])
      · exact released.owner.trans (by rw [unheld.stream_eq, if_pos ⟨draining, empty⟩])
      exact released.drained (by rwa [unheld.stream_eq]) empty o (by rwa [unheld.stream_eq])
    · have notEnds : ¬ ((s.stream u).state = .draining ∧ pageCount (dropPin p s) u = 0) := fun both => by
        obtain ⟨last, one⟩ := (ends both.1).1 both.2
        exact goesOn.elim (· both.1) fun or => or.elim (· last) (· one)
      refine ⟨?_, ?_, ?_⟩
      · exact released.state.trans (by rw [unheld.stream_eq, if_neg notEnds])
      · exact released.owner.trans (by rw [unheld.stream_eq, if_neg notEnds])
      · rw [not_and_or] at notEnds
        exact (released.notices (by rwa [unheld.stream_eq])).trans unheld.notices

end Sys2Proof.Machine

/-! The flips that choose a frame: frozen, without a source, without a candidate, with one, and behind a leader
(R116 to R122). -/

namespace Sys2Proof.Machine

/-! ### The pool around the choice of the frame -/

theorem tracked_pool (p : Port) (s : State) :
    (tracked p s).pages = s.pages ∧ (tracked p s).freeList = s.freeList ∧ (tracked p s).streams = s.streams := by
  unfold tracked trackTotal
  dsimp only
  split <;> exact ⟨rfl, rfl, rfl⟩

@[simp] theorem tracked_page (p : Port) (s : State) (g : PageNo) : (tracked p s).page g = s.page g := by
  simp [State.page, (tracked_pool p s).1]

@[simp] theorem tracked_stream (p : Port) (s : State) (n : StreamNo) : (tracked p s).stream n = s.stream n := by
  simp [State.stream, (tracked_pool p s).2.2]

theorem tracked_upkeep (p : Port) (s : State) : Upkeep { egress := fun q => q = p } s (tracked p s) :=
  (Upkeep.setEgress rfl _ s).trans (.trackTotal rfl _)

theorem alike_tracked (p : Port) (s : State) : Alike s (tracked p s) where
  page g := tracked_page p s g ▸ .refl _
  stream n := tracked_stream p s n ▸ .refl _
  held q := by
    by_cases own : q = p
    · subst own
      exact (sameFrame_tracked q s).held
    · rw [tracked_egress_ne own]
  pin q := (tracked_upkeep p s).within.pin q id
  context q tg := by simp only [State.context, (tracked_upkeep p s).within.capture q id]

theorem PoolSound.tracked {s : State} (h : PoolSound uncut noneDue s) (p : Port) :
    PoolSound uncut noneDue (tracked p s) :=
  h.of_alike (alike_tracked p s) (tracked_upkeep p s)

theorem tracked_cursor (p q : Port) (s : State) : ((tracked p s).egress q).cursor = (s.egress q).cursor := by
  by_cases own : q = p
  · subst own
    exact (sameFrame_tracked q s).cursor
  · rw [tracked_egress_ne own]

theorem settleFallback_pool (p : Port) (before : Showing) (s : State) :
    (settleFallback p before s).pages = s.pages ∧ (settleFallback p before s).freeList = s.freeList ∧
      (settleFallback p before s).streams = s.streams := by
  unfold settleFallback
  split
  · exact ⟨rfl, rfl, rfl⟩
  · dsimp only
    split <;> exact ⟨rfl, rfl, rfl⟩

theorem fullFlip_pool (p : Port) (s : State) :
    (fullFlip p s).pages = (chooseFrame p (tracked p s)).pages ∧
      (fullFlip p s).freeList = (chooseFrame p (tracked p s)).freeList ∧
      (fullFlip p s).streams = (chooseFrame p (tracked p s)).streams := by
  rw [fullFlip_eq_setEgress, settled]
  exact settleFallback_pool ..

theorem fullFlip_page_eq (p : Port) (s : State) (g : PageNo) :
    (fullFlip p s).page g = (chooseFrame p (tracked p s)).page g := by simp only [State.page, (fullFlip_pool p s).1]

/-- EG_FALLBACK: raised when the frame shown passes from PAGE to another (R122). -/
theorem hasMember_fullFlip_egFallback (p : Port) (s : State) :
    hasMember ((fullFlip p s).notice p).flags 8 = (hasMember (s.notice p).flags 8 ||
      decide ((s.egress p).showing = .page ∧ ((fullFlip p s).egress p).showing ≠ .page)) := by
  rw [hasMember_fullFlip p s (by decide)]
  simp

/-! ### Which frame is chosen (R116 to R121) -/

section chooseFrame

variable {p : Port} {s : State}

theorem chooseFrame_of_frozen (frozen : (s.egress p).frozen = true) (sourced : (s.egress p).source ≠ .none) :
    chooseFrame p s = repeatPage p s := by
  unfold chooseFrame
  dsimp only
  split
  · next none => exact absurd none sourced
  · exact if_pos frozen
  · exact if_pos frozen

theorem chooseFrame_of_none (none : (s.egress p).source = .none) : chooseFrame p s = showBlank p s := by
  simp [chooseFrame, none]

theorem chooseFrame_of_stream {st : StreamNo} (thawed : (s.egress p).frozen = false)
    (source : (s.egress p).source = .stream st) :
    chooseFrame p s = takeFromStream p st ((s.stream st).ready.length + 1) s := by
  simp [chooseFrame, source, thawed]

theorem chooseFrame_of_follow {k : Port} (thawed : (s.egress p).frozen = false)
    (source : (s.egress p).source = .follow k) : chooseFrame p s = takeFromLeader p k s := by
  simp [chooseFrame, source, thawed]

end chooseFrame

/-- A held page given up in a coherent state, in the state that `Unheld` speaks of. -/
theorem unheld_setEgress {p : Port} {g : PageNo} {st : StreamNo} {s : State} (sound : PoolSound uncut noneDue s)
    (held : (s.egress p).held = some g) (stream : (s.page g).stream = some st) :
    Unheld (.egress p) g st s
      ((s.setEgress p { s.egress p with held := none }).setPage g ((s.page g).unhold (.egress p))) := by
  refine .of_slotSet sound held stream (slotSet_setEgress p s { s.egress p with held := none }) rfl (fun j => ?_)
    (Upkeep.setEgress (x := { egress := fun _ => True }) trivial _ s)
  rw [State.setEgress_egress]
  split
  · next own => rw [own]
  · rfl

/-- Settles O32: a repeat touches no page; BLANK is `dropHeld`, whose release is that of `Unheld`. -/
theorem frozenAndSourcelessFlips : Obligations.FrozenAndSourcelessFlips := by
  intro p s e out he running noStop frameOver
  subst he
  have counted := frameCounted_fullFlip p s
  have same := sameFrame_tracked p s
  have settings := sameSettings_tracked p s
  have fallback := hasMember_fullFlip_egFallback p s
  obtain ⟨pages, freeList, streams⟩ := fullFlip_pool p s
  refine ⟨fun frozen sourced => ?_, fun sourceless => ?_⟩
  · have choice : chooseFrame p (tracked p s) = repeatPage p (tracked p s) :=
      chooseFrame_of_frozen (settings.frozen.trans frozen) (settings.source ▸ sourced)
    obtain ⟨trackedPages, trackedFree, trackedStreams⟩ := tracked_pool p s
    rw [choice] at counted pages freeList streams
    rw [repeatPage_egress_self] at counted
    refine ⟨fullFlip p s, exec_flip_of_not_stopping out running noStop frameOver, counted.held.trans same.held,
      counted.showing.trans same.showing, counted.patternCopy.trans same.patternCopy,
      counted.cursor.trans same.cursor, ?_, ?_, counted.newFrames.trans same.newFrames,
      counted.dropped.trans same.dropped, ?_, ?_, pages.trans trackedPages, streams.trans trackedStreams,
      freeList.trans trackedFree⟩
    · rw [counted.repeats, same.repeats]
    · rw [counted.flips, same.flips]
    · rw [counted.fallbackFrames, same.showing, same.fallbackFrames]
    · rw [fallback, counted.showing, same.showing]
      simp
  · have choice : chooseFrame p (tracked p s) = showBlank p (tracked p s) :=
      chooseFrame_of_none (settings.source.trans sourceless)
    have page : ∀ g, (fullFlip p s).page g = (dropHeld p (tracked p s)).page g := fun g => by
      rw [fullFlip_page_eq, choice]
      rfl
    rw [choice, showBlank_egress_self] at counted
    refine ⟨fullFlip p s, exec_flip_of_not_stopping out running noStop frameOver, counted.held, counted.showing,
      counted.patternCopy, ?_, ?_, counted.repeats.trans same.repeats, counted.newFrames.trans same.newFrames, ?_,
      fun g held => ?_, fun coherent g u q held stream sequence => ?_⟩
    · rw [counted.fallbackFrames, if_neg (by simp), same.fallbackFrames]
    · rw [counted.flips, same.flips]
    · rw [fallback, counted.showing]
      simp
    · rw [page]
      exact dropHeld_holder (same.held.trans held)
    · have sound := coherent.poolSound.tracked p
      have held := same.held.trans held
      have unheld := unheld_setEgress sound held (by simpa using stream)
      have drop := dropHeld_of_holder held (by simpa using stream) (sound.held_page (k := .egress p) held).1
      have pageSelf := unheld.page_self (q := q) (by simpa using sequence)
      rw [← drop, ← page, tracked_page] at pageSelf
      refine pageSelf.trans (if_congr (and_congr_right fun _ => ?_) rfl rfl)
      exact ruleCallsFor_congr (tracked_stream ..) (fun j => tracked_cursor p j s) _

/-! ### No candidate (R117 to R119) -/

theorem candidate_of_none_later {r : Stream} {cursor : Option Word32}
    (passed : ∀ x ∈ r.ready, ∃ q, cursor = some q ∧ ¬ IsLater x.sequence q) : candidate r cursor = none := by
  have empty : laterEntries cursor r.ready = [] := by
    unfold laterEntries
    split
    · exact List.eq_nil_iff_forall_not_mem.2 fun x hx => by
        obtain ⟨q, no, -⟩ := passed x hx
        exact nomatch no
    · next c =>
      refine List.filter_eq_nil_iff.2 fun x hx later => ?_
      obtain ⟨q, same, no⟩ := passed x hx
      obtain rfl : c = q := Option.some.inj same
      exact no ((laterThan_iff ..).1 later)
  unfold candidate
  split <;> simp [empty]

section withoutCandidate

variable {p : Port} {st : StreamNo} {s : State}

/-- The held page is repeated, unless a stall calls for another frame (R118, R119). -/
theorem withoutCandidate_of_kept (held : (s.egress p).held.isSome = true)
    (keeps : (s.stream st).state ≠ .stalled ∨ (s.egress p).stallAction = .hold) :
    withoutCandidate p st s = repeatPage p s := by
  obtain ⟨g, held⟩ := Option.isSome_iff_exists.1 held
  unfold withoutCandidate
  split
  · next stalled => simp [stallFrame, held, keeps.resolve_left (not_not.2 stalled)]
  · simp [noCandidate, held]

/-- Otherwise the fallback of the stall action is shown (R118, R119, R122). -/
theorem withoutCandidate_of_fallback
    (falls : (s.egress p).held = none ∨ (s.stream st).state = .stalled ∧ (s.egress p).stallAction ≠ .hold) :
    withoutCandidate p st s = if (s.egress p).stallAction = .pattern then showOwnPattern p s else showBlank p s := by
  unfold withoutCandidate
  split
  · next stalled => cases action : (s.egress p).stallAction <;> simp_all [stallFrame]
  · next notStalled =>
    have none := falls.resolve_right fun both => notStalled both.1
    cases action : (s.egress p).stallAction <;> simp [noCandidate, none, action]

end withoutCandidate

/-- The frame shown after the held page is given up, in the records that a flip counts (R118 to R122). -/
theorem fallbackFrame_spec (p : Port) (s : State) (u : State)
    (h : u = if (s.egress p).stallAction = .pattern then showOwnPattern p s else showBlank p s) :
    u.pages = (dropHeld p s).pages ∧ ∃ showing copy, u.egress p =
      { s.egress p with held := none, showing := showing, patternCopy := copy } ∧ showing ≠ .page ∧
      ((s.egress p).stallAction = .pattern → (s.pattern (s.egress p).fallbackEntry).valid = true →
        showing = .pattern (s.egress p).fallbackEntry ∧
          copy = some (s.pattern (s.egress p).fallbackEntry).content) ∧
      ((s.egress p).stallAction ≠ .pattern ∨ (s.pattern (s.egress p).fallbackEntry).valid = false →
        showing = .blank ∧ copy = none) := by
  subst h
  split
  · next pattern =>
    refine ⟨rfl, ?_⟩
    rw [showOwnPattern_egress_self]
    split
    · next valid => exact ⟨_, _, rfl, by simp, fun _ _ => ⟨rfl, rfl⟩, fun h => by simp [pattern, valid] at h⟩
    · next invalid => exact ⟨_, _, rfl, by simp, fun _ valid => absurd valid invalid, fun _ => ⟨rfl, rfl⟩⟩
  · next other =>
    refine ⟨rfl, ?_⟩
    rw [showBlank_egress_self]
    exact ⟨_, _, rfl, by simp, fun pattern => absurd pattern other, fun _ => ⟨rfl, rfl⟩⟩

/-- Settles O34: `withoutCandidate` repeats or falls back. -/
theorem flipWithoutCandidate : Obligations.FlipWithoutCandidate := by
  intro p s e st kept out he running noStop frameOver thawed source passed
  subst he
  have counted := frameCounted_fullFlip p s
  have same := sameFrame_tracked p s
  have settings := sameSettings_tracked p s
  have fallback := hasMember_fullFlip_egFallback p s
  have choice : chooseFrame p (tracked p s) = withoutCandidate p st (tracked p s) := by
    rw [chooseFrame_of_stream (settings.frozen.trans thawed) (settings.source.trans source),
      takeFromStream_of_none]
    rw [tracked_stream, same.cursor]
    exact candidate_of_none_later passed
  rw [choice] at counted
  have pages := (fullFlip_pool p s).1
  rw [choice] at pages
  refine ⟨fullFlip p s, exec_flip_of_not_stopping out running noStop frameOver, ?_⟩
  by_cases keeps : (s.egress p).held.isSome = true ∧
      ((s.stream st).state ≠ .stalled ∨ (s.egress p).stallAction = .hold)
  · have repeats := withoutCandidate_of_kept (p := p) (st := st) (s := tracked p s) (by rw [same.held]; exact keeps.1)
      (by rw [tracked_stream, settings.stallAction]; exact keeps.2)
    have shows : ((tracked p s).egress p).showing = .page := same.showing.trans ((kept p).2.2.1.1.1 keeps.1)
    rw [repeats, repeatPage_egress_self] at counted
    rw [repeats] at pages
    refine ⟨counted.cursor.trans same.cursor, by rw [counted.flips, same.flips],
      counted.newFrames.trans same.newFrames, counted.dropped.trans same.dropped, fun _ => ⟨?_, ?_, ?_, ?_, ?_⟩,
      fun falls => ?_⟩
    · exact counted.held.trans same.held
    · exact counted.showing.trans shows
    · rw [counted.repeats, same.repeats]
    · rw [counted.fallbackFrames, if_pos shows, same.fallbackFrames]
    · exact pages.trans (tracked_pool p s).1
    · exfalso
      obtain none | ⟨stalled, other⟩ := falls
      · simp [none] at keeps
      · exact keeps.2.elim (· stalled) other
  · have falls : (s.egress p).held = none ∨ (s.stream st).state = .stalled ∧ (s.egress p).stallAction ≠ .hold := by
      rw [not_and_or, not_or, Bool.not_eq_true, Option.isSome_eq_false_iff, Option.isNone_iff_eq_none] at keeps
      exact keeps.imp id fun both => ⟨not_not.1 both.1, both.2⟩
    obtain ⟨drops, showing, copy, record, notPage, pattern, blank⟩ := fallbackFrame_spec p (tracked p s) _
      (withoutCandidate_of_fallback (p := p) (st := st) (s := tracked p s)
        (by rw [same.held, tracked_stream, settings.stallAction]; exact falls))
    have entries : ∀ n, (tracked p s).pattern n = s.pattern n := fun n => by simp [State.pattern, tracked_patterns]
    rw [settings.stallAction, settings.fallbackEntry, entries] at pattern blank
    rw [record] at counted
    refine ⟨counted.cursor.trans same.cursor, by rw [counted.flips, same.flips],
      counted.newFrames.trans same.newFrames, counted.dropped.trans same.dropped, fun keep => absurd keep keeps,
      fun _ => ⟨counted.held, counted.repeats.trans same.repeats, ?_, fun g held => ?_, fun page => ?_,
        fun isPattern valid => ?_, fun none => ?_⟩⟩
    · rw [counted.fallbackFrames, if_neg notPage, same.fallbackFrames]
    · rw [State.page, pages, drops]
      exact dropHeld_holder (same.held.trans held)
    · rw [fallback, counted.showing]
      simp [page, notPage]
    · obtain ⟨show_, copied⟩ := pattern isPattern valid
      exact ⟨counted.showing.trans show_, counted.patternCopy.trans copied⟩
    · obtain ⟨show_, copied⟩ := blank none
      exact ⟨counted.showing.trans show_, counted.patternCopy.trans copied⟩

end Sys2Proof.Machine

/-! The flips that take a page: a follower's from its leader (R121) and a subscriber's from its stream (R117). -/

namespace Sys2Proof.Machine

/-! ### Behind a leader (R121) -/

section takeFromLeader

variable {p k : Port} {s : State}

theorem takeFromLeader_of_held {g : PageNo} (running : (s.egress k).run = .running)
    (held : (s.egress k).held = some g) : takeFromLeader p k s = followPage p g s := by
  simp [takeFromLeader, running, held]

theorem takeFromLeader_of_pattern {n : EntryNo} (running : (s.egress k).run = .running)
    (none : (s.egress k).held = none) (pattern : (s.egress k).showing = .pattern n) :
    takeFromLeader p k s =
      (dropHeld p s).modEgress p fun e => e.show (.pattern n) (s.egress k).patternCopy := by
  simp [takeFromLeader, running, none, pattern]

theorem takeFromLeader_of_blank (h : (s.egress k).run = .stopped ∨
    (s.egress k).held = none ∧ (s.egress k).showing = .blank) : takeFromLeader p k s = showBlank p s := by
  unfold takeFromLeader
  dsimp only
  obtain stopped | ⟨none, blank⟩ := h
  · rw [stopped]
  · rw [none, blank]
    cases (s.egress k).run <;> rfl

theorem followPage_of_same {g : PageNo} (held : (s.egress p).held = some g) :
    followPage p g s = (repeatPage p s).modEgress p fun e => e.show .page none := by
  simp [followPage, held]

theorem followPage_of_ready {g : PageNo} (other : (s.egress p).held ≠ some g)
    (ready : ((dropHeld p s).page g).state = .ready) :
    followPage p g s = (takeHold (.egress p) g (dropHeld p s)).modEgress p fun e =>
      { e.show .page none with held := some g, newFrames := e.newFrames + 1 } := by
  simp [followPage, other, ready]

end takeFromLeader

/-- A page that another slot has stays as it is when an egress gives up its own (R13). -/
theorem dropHeld_page_of_held {p : Port} {s : State} {g : PageNo} (isHeld : (s.page g).holdCount ≠ 0)
    (other : (s.egress p).held ≠ some g) : (dropHeld p s).page g = s.page g := by
  cases held : (s.egress p).held with
  | none => rw [dropHeld_of_none held]
  | some h =>
    rw [dropHeld_of_held held]
    refine (releaseHold_onlyCleared _ fun same => other ?_).2 isHeld
    rw [held, same]

/-- A page in a slot is held (R12). -/
theorem PoolSound.holdCount_ne_zero {cut : Port → Tag → Prop} {due : StreamNo → Prop} {s : State}
    (h : PoolSound cut due s) {k : Holder} {g : PageNo} (held : k.slot s = some g) : (s.page g).holdCount ≠ 0 :=
  fun unheld => h.slot_ne unheld k held

/-- What a follower's flip leaves of its record and of the pages (R121). -/
structure FollowedPage (p : Port) (g : PageNo) (s u : State) : Prop where
  record : u.egress p =
    { s.egress p with
      held := some g, showing := .page, patternCopy := none
      repeats := if (s.egress p).held = some g then (s.egress p).repeats + 1 else (s.egress p).repeats
      newFrames := if (s.egress p).held = some g then (s.egress p).newFrames else (s.egress p).newFrames + 1 }
  holder : hasMember (u.page g).holders (Holder.egress p).bit = true
  gone : ∀ h, (s.egress p).held = some h → h ≠ g → hasMember (u.page h).holders (Holder.egress p).bit = false

theorem followedPage {p k : Port} {g : PageNo} {s : State} (sound : PoolSound uncut noneDue s)
    (leader : (s.egress k).held = some g) : FollowedPage p g s (followPage p g s) := by
  by_cases same : (s.egress p).held = some g
  · rw [followPage_of_same same]
    refine ⟨?_, ((sound.held_page (k := .egress p) same).1), fun h held other => ?_⟩
    · simp only [State.modEgress_eq, State.setEgress_egress_self, repeatPage_egress_self, if_pos same, Egress.show]
      rw [← same]
    · exact absurd (Option.some.inj (held.symm.trans same)) other
  · have kept := dropHeld_page_of_held (sound.holdCount_ne_zero (k := .egress k) leader) same
    have ready : ((dropHeld p s).page g).state = .ready := by
      rw [kept]
      exact (sound.held_page (k := .egress k) leader).2.1
    rw [followPage_of_ready same ready]
    refine ⟨?_, ?_, fun h held other => ?_⟩
    · simp only [State.modEgress_eq, State.setEgress_egress_self, takeHold_egress, dropHeld_egress_self, if_neg same,
        Egress.show]
    · rw [takeHold_eq_hold ready]
      simp [hasMember_hold]
    · rw [takeHold_eq_hold ready]
      change hasMember (((dropHeld p s).setPage g _).page h).holders _ = false
      rw [State.setPage_page_ne _ _ other.symm]
      exact dropHeld_holder held

/-- What a flip that shows no page leaves of the record and of the pages (R120, R121). -/
structure ShownWithoutPage (p : Port) (showing : Showing) (copy : Option PatternContent) (s u : State) : Prop where
  record : u.egress p = { s.egress p with held := none, showing := showing, patternCopy := copy }
  pages : u.pages = (dropHeld p s).pages

theorem shownWithoutPage_showBlank (p : Port) (s : State) : ShownWithoutPage p .blank none s (showBlank p s) :=
  ⟨showBlank_egress_self s, rfl⟩

theorem shownWithoutPage_pattern (p : Port) (n : EntryNo) (copy : Option PatternContent) (s : State) :
    ShownWithoutPage p (.pattern n) copy s ((dropHeld p s).modEgress p fun e => e.show (.pattern n) copy) := by
  refine ⟨?_, rfl⟩
  rw [State.modEgress_eq, State.setEgress_egress_self, dropHeld_egress_self]
  rfl

/-- Settles O35: by what the leader shows, read in the state whose frame length is set. -/
theorem flipFollowsTheLeader : Obligations.FlipFollowsTheLeader := by
  intro p k s e l coherent out he hl running noStop frameOver thawed source
  subst he hl
  obtain ⟨other, -⟩ := coherent.followers p k source
  have counted := frameCounted_fullFlip p s
  have same := sameFrame_tracked p s
  have settings := sameSettings_tracked p s
  have sound := coherent.poolSound.tracked p
  have leader : (tracked p s).egress k = s.egress k := tracked_egress_ne other s
  have choice : chooseFrame p (tracked p s) = takeFromLeader p k (tracked p s) :=
    chooseFrame_of_follow (settings.frozen.trans thawed) (settings.source.trans source)
  have page := fullFlip_page_eq p s
  have kept : (fullFlip p s).egress k = s.egress k :=
    (Upkeep.fullFlip (x := { egress := fun q => q = p }) rfl s).within.egress k other
  have flag := hasMember_fullFlip_egFallback p s
  obtain ⟨-, ⟨-, whenStopped⟩, ⟨holds, -⟩, -⟩ := coherent.egresses k
  rw [choice] at counted page
  refine ⟨fullFlip p s, exec_flip_of_not_stopping out running noStop frameOver, ?_⟩
  by_cases shows : (s.egress k).run = .running ∧ (s.egress k).held.isSome = true
  · obtain ⟨runs, hasPage⟩ := shows
    obtain ⟨g, held⟩ := Option.isSome_iff_exists.1 hasPage
    have followed := followedPage (p := p) sound (by rw [leader]; exact held)
    rw [takeFromLeader_of_held (by rw [leader]; exact runs) (by rw [leader]; exact held)] at counted page
    obtain ⟨record, holder, gone⟩ := followed
    rw [record, same.held, same.repeats, same.newFrames] at counted
    refine ⟨counted.cursor.trans same.cursor, counted.dropped.trans same.dropped,
      by rw [counted.flips, same.flips], kept, flag, fun h own left => ?_, fun h _ isHeld => ?_,
      fun x _ pattern => ?_, fun none => ?_⟩
    · rw [page]
      refine gone h (same.held.trans own) fun is => left ?_
      rw [is, counted.held]
    · obtain rfl : g = h := Option.some.inj (held.symm.trans isHeld)
      exact ⟨counted.held, counted.showing, counted.patternCopy, counted.repeats, counted.newFrames,
        by rw [page]; exact holder⟩
    · simp [holds.1 hasPage] at pattern
    · simp [holds.1 hasPage, runs] at none
  · have noPage : (s.egress k).held = none := by
      by_cases runs : (s.egress k).run = .running
      · simpa [runs] using shows
      · exact (whenStopped (by cases run : (s.egress k).run <;> simp_all)).2.1
    have shown : ∃ v copy, ShownWithoutPage p v copy (tracked p s) (takeFromLeader p k (tracked p s)) ∧
        (∀ x, (s.egress k).run = .running → (s.egress k).showing = .pattern x →
          v = .pattern x ∧ copy = (s.egress k).patternCopy) ∧
        ((s.egress k).run = .stopped ∨ (s.egress k).showing = .blank → v = .blank ∧ copy = none) := by
      by_cases blank : (s.egress k).run = .stopped ∨ (s.egress k).showing = .blank
      · rw [takeFromLeader_of_blank (by rw [leader]; exact blank.imp id fun is => ⟨noPage, is⟩)]
        refine ⟨_, _, shownWithoutPage_showBlank .., fun x runs pattern => ?_, fun _ => ⟨rfl, rfl⟩⟩
        simp [runs, pattern] at blank
      · rw [not_or] at blank
        have runs : (s.egress k).run = .running := by cases run : (s.egress k).run <;> simp_all
        cases showing : (s.egress k).showing with
        | page => simpa [noPage] using holds.2 showing
        | blank => exact absurd showing blank.2
        | pattern n =>
          rw [takeFromLeader_of_pattern (n := n) (by rw [leader]; exact runs) (by rw [leader]; exact noPage)
            (by rw [leader]; exact showing), leader]
          exact ⟨_, _, shownWithoutPage_pattern .., fun x _ is => ⟨is, rfl⟩, fun is => by simp [runs] at is⟩
    obtain ⟨v, copy, ⟨record, pages⟩, pattern, blank⟩ := shown
    rw [record] at counted
    refine ⟨counted.cursor.trans same.cursor, counted.dropped.trans same.dropped,
      by rw [counted.flips, same.flips], kept, flag, fun h own _ => ?_, fun h _ isHeld => ?_,
      fun x runs is => ?_, fun is => ?_⟩
    · rw [page, State.page, pages]
      exact dropHeld_holder (same.held.trans own)
    · simp [noPage] at isHeld
    · obtain ⟨rfl, rfl⟩ := pattern x runs is
      exact ⟨counted.held, counted.showing, counted.patternCopy⟩
    · obtain ⟨rfl, rfl⟩ := blank is
      exact ⟨counted.held, counted.showing, counted.patternCopy⟩

/-! ### The candidate (R117) -/

/-- The entry is later than the cursor, or there is no cursor. -/
def isAfter (cursor : Option Word32) (e : ReadyEntry) : Bool :=
  match cursor with
  | none => true
  | some q => decide (IsLater e.sequence q)

/-- The newest entry of a LATEST stream, the oldest later one of a QUEUED stream: the entry a flip takes. -/
def IsCandidate (r : Stream) (cursor : Option Word32) (c : ReadyEntry) : Prop :=
  (r.mode = .latest ∧ r.ready.getLast? = some c ∧ ∀ q, cursor = some q → IsLater c.sequence q) ∨
    (r.mode = .queued ∧ (r.ready.filter (isAfter cursor)).head? = some c)

theorem laterEntries_eq (cursor : Option Word32) (ready : List ReadyEntry) :
    laterEntries cursor ready = ready.filter (isAfter cursor) := by
  unfold laterEntries
  cases cursor with
  | none => exact (List.filter_eq_self.2 fun _ _ => rfl).symm
  | some q => exact List.filter_congr fun x _ => laterThan_eq_decide ..

theorem IsCandidate.candidate {r : Stream} {cursor : Option Word32} {c : ReadyEntry} (h : IsCandidate r cursor c) :
    candidate r cursor = some c := by
  unfold Machine.candidate
  rw [laterEntries_eq]
  obtain ⟨latest, newest, later⟩ | ⟨queued, oldest⟩ := h
  · rw [latest]
    obtain ⟨front, same⟩ := List.getLast?_eq_some_iff.1 newest
    have kept : isAfter cursor c = true := by
      cases cursor with
      | none => rfl
      | some q => exact decide_eq_true (later q rfl)
    simp [same, kept]
  · rw [queued]
    exact oldest

theorem IsCandidate.mem {r : Stream} {cursor : Option Word32} {c : ReadyEntry} (h : IsCandidate r cursor c) :
    c ∈ r.ready ∧ ∀ q, cursor = some q → IsLater c.sequence q := by
  obtain ⟨-, newest, later⟩ | ⟨-, oldest⟩ := h
  · exact ⟨List.mem_of_getLast? newest, later⟩
  · obtain ⟨mem, later⟩ := List.mem_filter.1 (List.mem_of_head? oldest)
    refine ⟨mem, fun q is => ?_⟩
    subst is
    exact of_decide_eq_true later

/-- No rule calls for a page that its subscriber's next flip takes (R87, R88). -/
theorem IsCandidate.not_called {s : State} {st : StreamNo} {p : Port} {c : ReadyEntry}
    (h : IsCandidate (s.stream st) (s.egress p).cursor c) (isOpen : (s.stream st).state.isOpen = true)
    (subscribed : hasMember (s.stream st).subscribers p = true) : ¬ RuleCallsFor s st c := by
  have later := h.mem.2
  obtain ⟨latest, newest, -⟩ | ⟨queued, -⟩ := h
  · rw [ruleCallsFor_of_latest isOpen latest]
    exact fun other => other newest
  · rw [ruleCallsFor_of_queued isOpen queued]
    rintro ⟨-, passed⟩
    have notLater := passed p subscribed
    cases cursor : (s.egress p).cursor with
    | none => simp [cursor] at notLater
    | some q =>
      rw [cursor, Option.any_some, decide_eq_true (later q cursor)] at notLater
      exact absurd notLater Bool.false_ne_true

theorem Page.WellKept.holdCount_ne_zero {r : Page} (h : r.WellKept) {b : Fin 8}
    (member : hasMember r.holders b = true) :
    r.holdCount ≠ 0 := by
  intro none
  rw [h.2.2.2.1, countMembers_eq_zero_iff] at none
  rw [none, hasMember_zero] at member
  exact absurd member Bool.false_ne_true

theorem Page.WellKept.viewed_of_holder {r : Page} (h : r.WellKept) {b : Fin 8} (member : hasMember r.holders b = true) :
    r.viewed = true := by
  refine (h.2.2.1.2.2.2 (h.ready_of_holder member)).2.2 fun none => ?_
  rw [none, hasMember_zero] at member
  exact absurd member Bool.false_ne_true

theorem PoolSound.releaseUnless {cut : Port → Tag → Prop} {due : StreamNo → Prop} {s : State}
    (h : PoolSound cut due s) (p : Port) (g : PageNo) : PoolSound cut due (releaseUnless p g s) := by
  unfold Machine.releaseUnless
  split
  · exact h
  · exact h.dropHeld p

/-- The page that a flip is about to take is kept while the one held before is given up. -/
theorem releaseUnless_candidate {p : Port} {st : StreamNo} {c : ReadyEntry} {s : State}
    (sound : PoolSound uncut noneDue s) (listed : c ∈ (s.stream st).ready) (notCalled : ¬ RuleCallsFor s st c) :
    (releaseUnless p c.page s).page c.page = s.page c.page := by
  unfold releaseUnless
  split
  · rfl
  next other =>
  cases held : (s.egress p).held with
  | none => rw [dropHeld_of_none held]
  | some h =>
    obtain ⟨member, -, n, stream⟩ := sound.held_page (k := .egress p) held
    have unheld := unheld_setEgress sound held stream
    have ne : c.page ≠ h := fun same => other (same ▸ held)
    rw [dropHeld_of_holder held stream member, unheld.released.page, unheld.page, if_neg ne, if_neg fun mem => ?_]
    obtain ⟨e, he, same, called, -⟩ := mem_freedPages_iff.1 mem
    rw [unheld.stream_eq] at he
    obtain rfl : n = st := by
      have own := ((sound.streamPages st).2.1 c listed).2.1
      rw [← same, ((sound.streamPages n).2.1 e he).2.1] at own
      exact Option.some.inj own
    obtain rfl := (sound.streamPages n).entry_eq he listed same
    exact notCalled ((ruleCallsFor_congr (unheld.stream_eq n) unheld.cursor e).1 called)

/-- What the take of a READY page leaves of the pages. -/
theorem takeCandidate_pages {p : Port} {st : StreamNo} {mode : Mode} {c : ReadyEntry} {s : State}
    (sound : PoolSound uncut noneDue s) (ready : (s.page c.page).state = .ready) :
    ((takeCandidate p st mode c s).page c.page).state = .ready ∧
      ((takeCandidate p st mode c s).page c.page).viewed = true ∧
      hasMember ((takeCandidate p st mode c s).page c.page).holders (Holder.egress p).bit = true ∧
      ∀ g, g ≠ c.page → hasMember (s.page g).holders (Holder.egress p).bit = false →
        hasMember ((takeCandidate p st mode c s).page g).holders (Holder.egress p).bit = false := by
  have kept := (sound.pages c.page).hold ready (.egress p)
  have member : hasMember ((s.page c.page).hold (.egress p)).holders (Holder.egress p).bit = true := by
    simp [hasMember_hold]
  have page : ((takeHold (.egress p) c.page s).modEgress p fun e => e.take mode c).page c.page =
      (s.page c.page).hold (.egress p) := by
    rw [takeHold_eq_hold ready]
    exact State.setPage_page_self ..
  have cleared : OnlyCleared ((takeHold (.egress p) c.page s).modEgress p fun e => e.take mode c)
      (takeCandidate p st mode c s) := .evaluateRelease ..
  have same := cleared.held c.page (by rw [page]; exact kept.holdCount_ne_zero member)
  rw [page] at same
  rw [same]
  refine ⟨kept.ready_of_holder member, kept.viewed_of_holder member, member, fun g other no => cleared.holder ?_⟩
  rw [takeHold_eq_hold ready]
  change hasMember ((s.setPage c.page _).page g).holders _ = false
  rwa [State.setPage_page_ne _ _ other.symm]

/-- What a take drops depends on the cursor and the dropped counter before it (R117). -/
theorem Egress.dropped_take_congr {e e' : Egress} (cursor : e'.cursor = e.cursor) (dropped : e'.dropped = e.dropped)
    (mode : Mode) (c : ReadyEntry) : (e'.take mode c).dropped = (e.take mode c).dropped := by
  simp only [Egress.take, cursor, dropped]

/-- Settles O33: the candidate outlives the release of the page held before, and is taken at the first try. -/
theorem flipTakesTheCandidate : Obligations.FlipTakesTheCandidate := by
  intro p s e st c coherent out he running noStop frameOver thawed source isCandidate
  subst he
  have counted := frameCounted_fullFlip p s
  have same := sameFrame_tracked p s
  have settings := sameSettings_tracked p s
  have sound := coherent.poolSound.tracked p
  have page := fullFlip_page_eq p s
  have isCandidate : IsCandidate ((tracked p s).stream st) ((tracked p s).egress p).cursor c := by
    rw [tracked_stream, same.cursor]
    exact isCandidate
  obtain ⟨subscribed, isOpen⟩ := (coherent.subscriptions p).1 st
  have notCalled := isCandidate.not_called (by rw [tracked_stream]; exact isOpen source)
    (by rw [tracked_stream]; exact subscribed.2 source)
  have keeps := releaseUnless_candidate (p := p) sound isCandidate.mem.1 notCalled
  have ready : ((releaseUnless p c.page (tracked p s)).page c.page).state = .ready := by
    rw [keeps]
    exact ((sound.streamPages st).2.1 c isCandidate.mem.1).1
  have choice : chooseFrame p (tracked p s) =
      takeCandidate p st (s.stream st).mode c (releaseUnless p c.page (tracked p s)) := by
    rw [chooseFrame_of_stream (settings.frozen.trans thawed) (settings.source.trans source),
      takeFromStream_of_some _ isCandidate.candidate, if_pos ready, tracked_stream]
  obtain ⟨isReady, viewed, holder, gone⟩ := takeCandidate_pages (p := p) (st := st) (mode := (s.stream st).mode)
    (sound.releaseUnless p c.page) ready
  rw [choice] at page counted
  rw [takeCandidate_egress_self] at counted
  have before : ((releaseUnless p c.page (tracked p s)).egress p).SameFrame
      { (tracked p s).egress p with held := ((releaseUnless p c.page (tracked p s)).egress p).held } := by
    rw [releaseUnless_egress_self]
    split <;> exact ⟨rfl, rfl, rfl, rfl, rfl, rfl, rfl, rfl, rfl, rfl, rfl⟩
  refine ⟨fullFlip p s, exec_flip_of_not_stopping out running noStop frameOver, counted.held, counted.cursor,
    counted.showing, counted.patternCopy, ?_, ?_, ?_, ?_, ?_, ?_, ?_, ?_, fun g held other => ?_⟩
  · rw [counted.newFrames, ← same.newFrames]
    exact congrArg (· + 1) before.newFrames.symm
  · rw [counted.repeats, ← same.repeats]
    exact before.repeats.symm
  · refine counted.fallbackFrames.trans ((if_pos rfl).trans ?_)
    rw [← same.fallbackFrames]
    exact before.fallbackFrames.symm
  · rw [counted.flips, ← same.flips]
    exact congrArg (· + 1) before.flips.symm
  · have dropped := Egress.dropped_take_congr (before.cursor.symm.trans same.cursor)
      (before.dropped.symm.trans same.dropped) (s.stream st).mode c
    exact (counted.dropped.trans dropped).trans rfl
  · rw [page]
    exact isReady
  · rw [page]
    exact viewed
  · rw [page]
    exact holder
  · rw [page]
    refine gone g other ?_
    have held := same.held.trans held
    rw [releaseUnless, if_neg (by rw [held]; simpa using other)]
    exact dropHeld_holder held

end Sys2Proof.Machine

/-! SUBSCRIBE, FOLLOW and DETACH (R91, R123 to R125). -/

namespace Sys2Proof.Machine

section exec

variable {p : Port} {b : Byte} {s : State}

theorem exec_subscribe_of_outOfRange (out : s.inReset = none) (high : 8 ≤ b.toNat) :
    exec (.subscribe p b) s = .next (s.refusedWith p .badArg) := by
  change onLink p s _ = _
  rw [argBelow_eq_none_iff.2 high, onLink, out]
  rfl

theorem exec_subscribe_of_not_open {st : StreamNo} (out : s.inReset = none) (named : b.toNat = st.val)
    (unlocked : (s.egress p).lock = false) (notOpen : (s.stream st).state.isOpen = false) :
    exec (.subscribe p b) s = .next (s.refusedWith p .badState) := by
  change onLink p s _ = _
  rw [argBelow_eq_some_iff.2 named]
  simp only [unlessLocked_of_unlocked _ unlocked, notOpen, onLink, out]
  rfl

theorem exec_subscribe_of_open {st : StreamNo} (out : s.inReset = none) (named : b.toNat = st.val)
    (unlocked : (s.egress p).lock = false) (isOpen : (s.stream st).state.isOpen = true) :
    exec (.subscribe p b) s = .next ((subscribe p st s).acked p []) := by
  change onLink p s _ = _
  rw [argBelow_eq_some_iff.2 named]
  simp only [unlessLocked_of_unlocked _ unlocked, isOpen, onLink, out]
  rfl

theorem exec_follow_of_outOfRange (out : s.inReset = none) (bad : 4 ≤ b.toNat ∨ b.toNat = p.val) :
    exec (.follow p b) s = .next (s.refusedWith p .badArg) := by
  change onLink p s _ = _
  by_cases high : 4 ≤ b.toNat
  · rw [argBelow_eq_none_iff.2 high, onLink, out]
    rfl
  · rw [argBelow_eq_some_iff.2 (bad.resolve_left high), onLink, out]
    simp only [if_true]
    rfl

theorem exec_follow_of_chain {k : Port} (out : s.inReset = none) (named : b.toNat = k.val) (other : k ≠ p)
    (unlocked : (s.egress p).lock = false)
    (chain : (s.egress k).source.isFollow = true ∨ ∃ j, (s.egress j).source = .follow p) :
    exec (.follow p b) s = .next (s.refusedWith p .badState) := by
  change onLink p s _ = _
  rw [argBelow_eq_some_iff.2 named]
  simp only [if_neg other, unlessLocked_of_unlocked _ unlocked, onLink, out]
  by_cases follows : (s.egress k).source.isFollow = true
  · simp only [follows, if_true]
    rfl
  · have followed : isFollowed s p = true := by
      refine (Bool.eq_false_or_eq_true _).resolve_right fun no => ?_
      obtain ⟨j, is⟩ := chain.resolve_left follows
      exact (isFollowed_eq_false_iff s p).1 no j is
    simp only [if_neg follows, followed, if_true]
    rfl

theorem exec_follow_of_passed {k : Port} (out : s.inReset = none) (named : b.toNat = k.val) (other : k ≠ p)
    (unlocked : (s.egress p).lock = false) (noFollow : (s.egress k).source.isFollow = false)
    (noFollower : ∀ j, (s.egress j).source ≠ .follow p) :
    exec (.follow p b) s = .next ((changeSource p (.follow k) s).acked p []) := by
  change onLink p s _ = _
  rw [argBelow_eq_some_iff.2 named]
  simp only [if_neg other, unlessLocked_of_unlocked _ unlocked, onLink, out, noFollow,
    (isFollowed_eq_false_iff s p).2 noFollower]
  rfl

theorem exec_detach (out : s.inReset = none) (unlocked : (s.egress p).lock = false) :
    exec (.detach p) s = .next ((changeSource p .none s).acked p []) := by
  change onLink p s _ = _
  simp only [unlessLocked_of_unlocked _ unlocked, onLink, out]
  rfl

end exec

/-- A subscription joined, after the one before was left (R123). -/
theorem subscribe_eq {p : Port} {st : StreamNo} {s left : State} (h : leaveSubscription p s = left) :
    subscribe p st s = evaluateRelease st ((left.setStream st
      { left.stream st with subscribers := addMember (left.stream st).subscribers p }).setEgress p
        { s.egress p with source := .stream st, cursor := none }) := by
  have egress : left.egress p = s.egress p := by rw [← h, leaveSubscription_egress]
  unfold subscribe
  rw [h]
  dsimp only
  rw [State.modEgress_eq, State.modStream_eq, State.setStream_egress, egress]

theorem subscribe_egress_self (p : Port) (st : StreamNo) (s : State) :
    (subscribe p st s).egress p = { s.egress p with source := .stream st, cursor := none } := by
  rw [subscribe_eq rfl, evaluateRelease_egress, State.setEgress_egress_self]

theorem changeSource_egress_self (p : Port) (v : Source) (s : State) :
    (changeSource p v s).egress p = { s.egress p with source := v, cursor := none } := by
  rw [changeSource, State.modEgress_eq, State.setEgress_egress_self, leaveSubscription_egress]

/-- Settles O27: `sourceSet_subscribe` for the sets, `subscribe_eq` for the rest. -/
theorem subscribeJoinsTheStream : Obligations.SubscribeJoinsTheStream := by
  intro p b s out
  refine ⟨exec_subscribe_of_outOfRange out, fun st named unlocked =>
    ⟨exec_subscribe_of_not_open out named unlocked, fun isOpen exact => ?_⟩⟩
  have set := sourceSet_subscribe (p := p) (st := st) exact
  have kept : Upkeep { subscriber := fun q => q = p, egress := fun q => q = p } s (subscribe p st s) :=
    .subscribe rfl rfl st s
  have run := exec_subscribe_of_open out named unlocked isOpen
  have record := subscribe_egress_self p st s
  have whole : ∀ left, leaveSubscription p s = left → subscribe p st s = _ := fun left h => subscribe_eq h
  generalize subscribe p st s = t at set kept run record whole
  refine ⟨_, run, State.setLink_link_self .., record, fun q other => set.others q other, fun n q => ?_,
    fun left hLeft => ?_, Table.ext fun q => kept.within.capture q id, Table.ext fun q => kept.within.pin q id,
    Table.ext fun n => kept.within.pattern n id, kept.within.frameStore id, kept.within.timeBase id⟩
  · refine (set.subscribers n q).trans ?_
    split
    · simp [eq_comm]
    · rfl
  · rw [whole left]
    split at hLeft
    · next u source => rw [hLeft, leaveSubscription_of_stream source]
    · next notStream => rw [hLeft, leaveSubscription_of_ne notStream]

/-- Settles O28: `sourceSet_changeSource` for the sets, the definition of `changeSource` for the rest. -/
theorem followAndDetachSetTheSource : Obligations.FollowAndDetachSetTheSource := by
  intro p b s out
  refine ⟨exec_follow_of_outOfRange out, fun k named other unlocked =>
    ⟨fun follows => exec_follow_of_chain out named other unlocked (.inl follows),
      fun followed => exec_follow_of_chain out named other unlocked (.inr followed), fun c v command exact => ?_⟩⟩
  have run : exec c s = .next ((changeSource p v s).acked p []) ∧ ∀ st, v ≠ .stream st := by
    obtain ⟨rfl, rfl, noFollow, noFollower⟩ | ⟨rfl, rfl⟩ := command
    · exact ⟨exec_follow_of_passed out named other unlocked noFollow noFollower, fun _ h => nomatch h⟩
    · exact ⟨exec_detach out unlocked, fun _ h => nomatch h⟩
  obtain ⟨run, notStream⟩ := run
  have set := sourceSet_changeSource (p := p) (v := v) exact notStream
  have kept : Upkeep { subscriber := fun q => q = p, egress := fun q => q = p } s (changeSource p v s) :=
    .changeSource rfl rfl v s
  refine ⟨_, run, State.setLink_link_self .., changeSource_egress_self p v s, fun q ne => set.others q ne,
    fun n q => ?_, fun u source => ?_, Table.ext fun q => kept.within.capture q id,
    Table.ext fun q => kept.within.pin q id, Table.ext fun n => kept.within.pattern n id,
    kept.within.frameStore id, kept.within.timeBase id⟩
  · refine (set.subscribers n q).trans ?_
    simp [notStream n]
  · rw [changeSource, State.modEgress_eq, leaveSubscription_egress, leaveSubscription_of_stream source]

end Sys2Proof.Machine

/-! Frames that begin, end and are aborted: what they keep of the pool, the ready lists and the contexts (R3, R7, R8,
R53, R73, R75 to R77, R81, R82, R85). -/

namespace Sys2Proof.Machine

theorem pageCount_mono {s t : State} {n : StreamNo} (le : ∀ a, (t.page a).stream = some n → (t.page a).state ≠ .free →
    (s.page a).stream = some n ∧ (s.page a).state ≠ .free) : pageCount t n ≤ pageCount s n := by
  rw [pageCount_eq_card, pageCount_eq_card]
  refine Finset.card_le_card fun a mem => ?_
  simp only [Finset.mem_filter, Finset.mem_univ, true_and] at mem ⊢
  exact le a mem.1 mem.2

/-! ### One page changes hands -/

/-- From `s` to `t` page `g`, which no one holds, takes the record `r`, and stream `st`, the one it may belong to, a
new list of its pages; context `tg` of port `p` is the one it may be captured by. -/
structure PageMoves (g : PageNo) (r : Page) (st : StreamNo) (p : Port) (tg : Tag) (s t : State) : Prop where
  page : ∀ a, t.page a = if a = g then r else s.page a
  unheldBefore : (s.page g).holders = 0#8
  unheldAfter : r.holders = 0#8
  streamBefore : ∀ n, (s.page g).state ≠ .free → (s.page g).stream = some n → n = st
  streamAfter : ∀ n, r.state ≠ .free → r.stream = some n → n = st
  producerBefore : ∀ pr, (s.page g).state = .filling → (s.page g).producer = some pr → pr = ⟨p, tg⟩
  producerAfter : ∀ pr, r.state = .filling → r.producer = some pr → pr = ⟨p, tg⟩
  slots : ∀ k : Holder, k.slot t = k.slot s
  streams : ∀ n, n ≠ st → t.stream n = s.stream n
  binding : (t.stream st).binding = (s.stream st).binding
  contexts : ∀ q u, ¬ (q = p ∧ u = tg) → t.context q u = s.context q u

namespace PageMoves

variable {g : PageNo} {r : Page} {st : StreamNo} {p : Port} {tg : Tag} {s t : State}

theorem page_ne (h : PageMoves g r st p tg s t) {a : PageNo} (other : a ≠ g) : t.page a = s.page a := by
  rw [h.page, if_neg other]

theorem page_self (h : PageMoves g r st p tg s t) : t.page g = r := by rw [h.page, if_pos rfl]

/-- The page is of no other stream, before and after. -/
theorem inStream_iff (h : PageMoves g r st p tg s t) {n : StreamNo} (other : n ≠ st) (a : PageNo) :
    ((t.page a).stream = some n ∧ (t.page a).state ≠ .free) ↔
      ((s.page a).stream = some n ∧ (s.page a).state ≠ .free) := by
  by_cases own : a = g
  · subst own
    rw [h.page_self]
    exact ⟨fun both => absurd (h.streamAfter n both.2 both.1) other,
      fun both => absurd (h.streamBefore n both.2 both.1) other⟩
  · rw [h.page_ne own]

theorem page_of_inStream (h : PageMoves g r st p tg s t) {n : StreamNo} (other : n ≠ st) {a : PageNo}
    (stream : (s.page a).stream = some n) (used : (s.page a).state ≠ .free) : t.page a = s.page a := by
  refine h.page_ne fun own => ?_
  subst own
  exact other (h.streamBefore n used stream)

theorem pageCount_ne (h : PageMoves g r st p tg s t) {n : StreamNo} (other : n ≠ st) :
    pageCount t n = pageCount s n := by
  rw [pageCount_eq_card, pageCount_eq_card]
  simp only [h.inStream_iff other]

theorem poolSound {cut later : Port → Tag → Prop} {due : StreamNo → Prop} {x : Exempt} (h : PageMoves g r st p tg s t)
    (sound : PoolSound cut due s) (cuts : ∀ q u, ¬ (q = p ∧ u = tg) → (later q u ↔ cut q u))
    (exact : StreamPagesExact t st) (count : CountFits t st (due st)) (context : ContextFits t p tg (later p tg))
    (upkeep : Upkeep x s t) : PoolSound later due t := by
  have binding : ∀ n, (t.stream n).binding = (s.stream n).binding := fun n => by
    by_cases own : n = st
    · rw [own, h.binding]
    · rw [h.streams n own]
  refine ⟨upkeep.freeList sound.freeList, upkeep.pages sound.pages, (holdersExact_iff t).2 fun a k => ?_,
    fun n => ?_, fun n => ?_, fun q u => ?_⟩
  · rw [h.slots]
    have before := (holdersExact_iff s).1 sound.holders a k
    by_cases own : a = g
    · subst own
      rw [h.page_self, h.unheldAfter, ← before, h.unheldBefore]
    · rw [h.page_ne own]
      exact before
  · by_cases own : n = st
    · rw [own]
      exact exact
    obtain ⟨once, listed, complete, fills⟩ := sound.streamPages n
    have same : ∀ a, (s.page a).state ≠ .free → (s.page a).stream = some n → t.page a = s.page a :=
      fun a used stream => h.page_of_inStream own stream used
    rw [StreamPagesExact, h.streams n own]
    refine ⟨once, fun e he => ?_, fun a ready stream => ?_, fun a => ?_⟩
    · rw [same _ (by simp [(listed e he).1]) (listed e he).2.1]
      exact listed e he
    · obtain ⟨stream', used⟩ := (h.inStream_iff own a).1 ⟨stream, by simp [ready]⟩
      rw [same a used stream'] at ready
      exact complete a ready stream'
    · rw [fills]
      constructor
      · rintro ⟨filling, stream⟩
        rw [same a (by simp [filling]) stream]
        exact ⟨filling, stream⟩
      · rintro ⟨filling, stream⟩
        obtain ⟨stream', used⟩ := (h.inStream_iff own a).1 ⟨stream, by simp [filling]⟩
        rw [same a used stream'] at filling
        exact ⟨filling, stream'⟩
  · by_cases own : n = st
    · rw [own]
      exact count
    obtain ⟨within, closed, draining⟩ := sound.counts n
    refine ⟨?_, ?_, ?_⟩
    all_goals rw [h.streams n own, h.pageCount_ne own]
    · exact within
    · exact closed
    · refine fun is => ⟨(draining is).1, fun no => ⟨((draining is).2 no).1, fun e he => ?_⟩⟩
      obtain ⟨ready, stream, -⟩ := (sound.streamPages n).2.1 e he
      rw [h.page_of_inStream own stream (by simp [ready])]
      exact ((draining is).2 no).2 e he
  · by_cases own : q = p ∧ u = tg
    · obtain ⟨rfl, rfl⟩ := own
      exact context
    have pairs : (⟨q, u⟩ : Pair) ≠ ⟨p, tg⟩ := fun same => own (by simpa using same)
    have produces : ∀ a, ((t.page a).state = .filling ∧ (t.page a).producer = some ⟨q, u⟩) ↔
        ((s.page a).state = .filling ∧ (s.page a).producer = some ⟨q, u⟩) := fun a => by
      by_cases is : a = g
      · subst is
        rw [h.page_self]
        exact ⟨fun both => absurd (h.producerAfter _ both.1 both.2) pairs,
          fun both => absurd (h.producerBefore _ both.1 both.2) pairs⟩
      · rw [h.page_ne is]
    refine ⟨fun no a => ?_, fun is a filling producer => ?_⟩
    · rw [h.contexts q u own, produces]
      obtain ⟨iff, bound⟩ := (sound.contexts q u).capturing (fun is => no ((cuts q u own).2 is)) a
      refine ⟨iff, fun capturing => ?_⟩
      obtain ⟨n, stream, bind⟩ := bound capturing
      have ne : a ≠ g := fun same => by
        subst same
        obtain ⟨filling, producer⟩ := iff.1 capturing
        exact pairs (h.producerBefore _ filling producer)
      rw [h.page_ne ne]
      exact ⟨n, stream, (binding n).trans bind⟩
    · obtain ⟨filling, producer⟩ := (produces a).1 ⟨filling, producer⟩
      exact (sound.contexts q u).none ((cuts q u own).1 is) a filling producer

end PageMoves

/-! ### Contexts (R53) -/

/-- A context that is not CAPTURING has no FILLING page, so it may count as cut. -/
theorem PoolSound.cutContext {cut : Port → Tag → Prop} {due : StreamNo → Prop} {s : State} (h : PoolSound cut due s)
    {p : Port} {tg : Tag} (idle : ∀ g, s.context p tg ≠ .capturing g) :
    PoolSound (fun q u => cut q u ∨ q = p ∧ u = tg) due s := by
  refine { h with contexts := fun q u =>
    ⟨fun no => (h.contexts q u).capturing fun is => no (.inl is), fun is g filling producer => ?_⟩ }
  by_cases already : cut q u
  · exact (h.contexts q u).none already g filling producer
  · obtain ⟨rfl, rfl⟩ := is.resolve_left already
    exact idle g (((h.contexts q u).capturing already g).1.2 ⟨filling, producer⟩)

/-- A capture unit replaced: each context is kept, or one that was cut takes a state that is not CAPTURING. -/
theorem PoolSound.setCapture {cut later : Port → Tag → Prop} {due : StreamNo → Prop} {s : State} {p : Port}
    {v : Capture} (h : PoolSound cut due s) (others : ∀ q u, q ≠ p → (later q u ↔ cut q u))
    (each : ∀ u, (Table.get v.contexts u = s.context p u ∧ (later p u ↔ cut p u)) ∨
      (cut p u ∧ ¬ later p u ∧ ∀ g, Table.get v.contexts u ≠ .capturing g)) :
    PoolSound later due (s.setCapture p v) := by
  refine ⟨h.freeList, h.pages, h.holders, h.streamPages,
    fun n => ⟨(h.counts n).within, (h.counts n).closed, (h.counts n).draining⟩, fun q u => ?_⟩
  by_cases own : q = p
  · subst own
    have read : (s.setCapture q v).context q u = Table.get v.contexts u := by
      rw [State.context, State.setCapture_capture_self]
    obtain ⟨same, cuts⟩ | ⟨was, isNot, idle⟩ := each u
    · refine ⟨fun no => ?_, fun is => (h.contexts q u).none (cuts.1 is)⟩
      rw [read, same]
      exact (h.contexts q u).capturing fun is => no (cuts.2 is)
    · refine ⟨fun _ g => ?_, fun is => absurd is isNot⟩
      rw [read]
      exact ⟨⟨fun capturing => absurd capturing (idle g),
        fun both => absurd both.2 ((h.contexts q u).none was g both.1)⟩,
        fun capturing => absurd capturing (idle g)⟩
  · have read : (s.setCapture p v).context q u = s.context q u := by
      rw [State.context, State.setCapture_capture_ne _ _ (Ne.symm own), State.context]
    refine ⟨fun no => ?_, fun is => (h.contexts q u).none ((others q u own).1 is)⟩
    rw [read]
    exact (h.contexts q u).capturing fun is => no ((others q u own).2 is)

/-- A cut context takes a state that is not CAPTURING. -/
theorem PoolSound.setContext {due : StreamNo → Prop} {s : State} {p : Port} {tg : Tag} {c : Context}
    {cut : Port → Tag → Prop} (h : PoolSound (fun q u => cut q u ∨ q = p ∧ u = tg) due s) (notCut : ¬ cut p tg)
    (idle : ∀ g, c ≠ .capturing g) : PoolSound cut due (s.setContext p tg c) := by
  rw [State.setContext_eq]
  refine h.setCapture (fun q u other => ?_) fun u => ?_
  · simp [other]
  · by_cases own : u = tg
    · subst own
      refine .inr ⟨.inr ⟨rfl, rfl⟩, notCut, fun g => ?_⟩
      rw [Table.get_put_self]
      exact idle g
    · refine .inl ⟨?_, by simp [own]⟩
      rw [Table.get_put_ne _ _ (Ne.symm own)]
      rfl

/-! ### Aborts (R85) -/

/-- An open frame of a sound state. -/
theorem PoolSound.openFrame {cut : Port → Tag → Prop} {due : StreamNo → Prop} {s : State} (h : PoolSound cut due s)
    {p : Port} {tg : Tag} {g : PageNo} (notCut : ¬ cut p tg) (capturing : s.context p tg = .capturing g) :
    (s.page g).state = .filling ∧ (s.page g).producer = some ⟨p, tg⟩ ∧ ∃ st, (s.page g).stream = some st ∧
      (s.stream st).binding = some ⟨p, tg⟩ ∧ (s.stream st).filling = some g := by
  obtain ⟨iff, bound⟩ := (h.contexts p tg).capturing notCut g
  obtain ⟨filling, producer⟩ := iff.1 capturing
  obtain ⟨st, stream, binding⟩ := bound capturing
  exact ⟨filling, producer, st, stream, binding, ((h.streamPages st).2.2.2 g).2 ⟨filling, stream⟩⟩

/-- The context's page is the one FILLING page with its producer. -/
theorem PoolSound.eq_of_producer {cut : Port → Tag → Prop} {due : StreamNo → Prop} {s : State} (h : PoolSound cut due s)
    {p : Port} {tg : Tag} {g a : PageNo} (notCut : ¬ cut p tg) (capturing : s.context p tg = .capturing g)
    (filling : (s.page a).state = .filling) (producer : (s.page a).producer = some ⟨p, tg⟩) : a = g := by
  have same := ((h.contexts p tg).capturing notCut a).1.2 ⟨filling, producer⟩
  rw [capturing] at same
  exact (Context.capturing.inj same).symm

/-- The context's page is the one FILLING page of its stream. -/
theorem PoolSound.eq_of_stream {cut : Port → Tag → Prop} {due : StreamNo → Prop} {s : State} (h : PoolSound cut due s)
    {st : StreamNo} {g a : PageNo} (fills : (s.stream st).filling = some g) (filling : (s.page a).state = .filling)
    (stream : (s.page a).stream = some st) : a = g :=
  Option.some.inj ((((h.streamPages st).2.2.2 a).2 ⟨filling, stream⟩).symm.trans fills)

theorem PoolSound.holders_of_filling {cut : Port → Tag → Prop} {due : StreamNo → Prop} {s : State}
    (h : PoolSound cut due s) {g : PageNo} (filling : (s.page g).state = .filling) : (s.page g).holders = 0#8 :=
  ((h.pages g).2.2.1.2.2.1 filling).2.2.2

theorem slot_of_poolOnly {s t : State} (pool : PoolOnly s t) (k : Holder) : k.slot t = k.slot s := by
  cases k with
  | egress p => simp only [Holder.slot, pool.egress]
  | pin p => simp only [Holder.slot, pool.pin]

/-- The abort of a context's frame cuts the context (R54, R66, R68, R85). -/
theorem PoolSound.abortFrame {cut : Port → Tag → Prop} {due : StreamNo → Prop} {s : State} (h : PoolSound cut due s)
    {p : Port} {tg : Tag} {g : PageNo} (notCut : ¬ cut p tg) (capturing : s.context p tg = .capturing g) :
    PoolSound (fun q u => cut q u ∨ q = p ∧ u = tg) due (abortFrame g s) := by
  obtain ⟨filling, producer, st, stream, binding, fills⟩ := h.openFrame notCut capturing
  have pool := PoolOnly.abortFrame g s
  have page : ∀ a, (Machine.abortFrame g s).page a = if a = g then Page.cleared else s.page a := fun a => by
    rw [abortFrame_page]
    simp [filling, eq_comm]
  have upkeep : Upkeep {} s (Machine.abortFrame g s) := .abortFrame g s
  rw [abortFrame_of_filling filling stream] at pool page upkeep ⊢
  have record := frameAborted_stream_self g st s
  have moves : PageMoves g Page.cleared st p tg s (frameAborted g st s) :=
    { page := page
      unheldBefore := h.holders_of_filling filling
      unheldAfter := rfl
      streamBefore := fun n _ is => (Option.some.inj (stream.symm.trans is)).symm
      streamAfter := fun _ used => absurd rfl used
      producerBefore := fun _ _ is => (Option.some.inj (producer.symm.trans is)).symm
      producerAfter := fun _ is => nomatch is
      slots := slot_of_poolOnly pool
      streams := fun n other => frameAborted_stream_ne g st s other.symm
      binding := by rw [record]
      contexts := fun q u _ => pool.context q u }
  obtain ⟨once, listed, complete, -⟩ := h.streamPages st
  refine moves.poolSound h (fun q u other => by simp [other]) ?_ ?_ ⟨fun no => absurd (.inr ⟨rfl, rfl⟩) no, ?_⟩ upkeep
  · rw [StreamPagesExact, record]
    refine ⟨once, fun e he => ?_, fun a ready is => ?_, fun a => ⟨fun no => (nomatch no), fun ⟨is, inStream⟩ => ?_⟩⟩
    · rw [moves.page_ne fun own => by simp [← own, (listed e he).1] at filling]
      exact listed e he
    · have other : a ≠ g := fun own => by
        rw [own, moves.page_self] at ready
        cases ready
      rw [moves.page_ne other] at ready is
      exact complete a ready is
    · have other : a ≠ g := fun own => by
        rw [own, moves.page_self] at is
        cases is
      rw [moves.page_ne other] at is inStream
      exact absurd (h.eq_of_stream fills is inStream) other
  · have less : pageCount (frameAborted g st s) st ≤ pageCount s st := pageCount_mono fun a is used => by
      have other : a ≠ g := fun own => by
        rw [own, moves.page_self] at used
        exact used rfl
      rw [moves.page_ne other] at is used
      exact ⟨is, used⟩
    obtain ⟨within, closed, draining⟩ := h.counts st
    refine ⟨?_, ?_, ?_⟩
    all_goals rw [record]
    · exact less.trans within
    · exact fun is => Nat.le_zero.1 (closed is ▸ less)
    · intro is
      rw [(draining is).1] at fills
      cases fills
  · intro _ a is producer'
    have other : a ≠ g := fun own => by
      rw [own, moves.page_self] at is
      cases is
    rw [moves.page_ne other] at is producer'
    exact other (h.eq_of_producer notCut capturing is producer')

end Sys2Proof.Machine

/-! Publication (R80 to R83, R162). -/

namespace Sys2Proof.Machine

/-! ### Changes of notices alone -/

/-- Pages, free list and streams stay. -/
structure PoolSame (s t : State) : Prop where
  pages : t.pages = s.pages
  freeList : t.freeList = s.freeList
  streams : t.streams = s.streams

namespace PoolSame

variable {s t u : State}

theorem refl (s : State) : PoolSame s s := ⟨rfl, rfl, rfl⟩

theorem trans (h : PoolSame s t) (k : PoolSame t u) : PoolSame s u :=
  ⟨k.pages.trans h.pages, k.freeList.trans h.freeList, k.streams.trans h.streams⟩

theorem foldl {α : Type} {f : State → α → State} (h : ∀ s a, PoolSame s (f s a)) (l : List α) (s : State) :
    PoolSame s (l.foldl f s) := by
  induction l generalizing s with
  | nil => exact refl s
  | cons a rest ih => exact (h s a).trans (ih _)

theorem raiseAt (p : Port) (n : Notice) (s : State) : PoolSame s (raiseAt p n s) := ⟨rfl, rfl, rfl⟩

theorem page (h : PoolSame s t) (g : PageNo) : t.page g = s.page g := by simp [State.page, h.pages]

theorem stream (h : PoolSame s t) (n : StreamNo) : t.stream n = s.stream n := by simp [State.stream, h.streams]

theorem alike (h : PoolSame s t) (pool : PoolOnly s t) : Alike s t where
  page g := h.page g ▸ .refl _
  stream n := h.stream n ▸ .refl _
  held p := by rw [pool.egress]
  pin p := pool.pin p
  context p tg := pool.context p tg

end PoolSame

/-! ### The watches (R83, R162) -/

/-- The publication offered to the watch of one port. -/
def offerWatch (st : StreamNo) (prior : Option Word32) (s : State) (j : Port) : State :=
  if watchFires (s.notice j).watch st prior then raiseAt j .watch s else s

theorem offerWatches_eq (st : StreamNo) (prior : Option Word32) (s : State) :
    offerWatches st prior s = allPorts.foldl (offerWatch st prior) s := rfl

theorem poolSame_offerWatches (st : StreamNo) (prior : Option Word32) (s : State) :
    PoolSame s (offerWatches st prior s) := by
  rw [offerWatches_eq]
  refine .foldl (fun s j => ?_) _ _
  unfold offerWatch
  split
  · exact .raiseAt ..
  · exact .refl s

theorem poolOnly_offerWatches (st : StreamNo) (prior : Option Word32) (s : State) :
    PoolOnly s (offerWatches st prior s) := by
  rw [offerWatches_eq]
  refine .foldl (fun s j => ?_) _ _
  unfold offerWatch
  split
  · exact .raiseAt ..
  · exact .refl s

theorem offerWatch_notice (st : StreamNo) (prior : Option Word32) (s : State) (j k : Port) :
    ((offerWatch st prior s j).notice k).watch = (s.notice k).watch ∧
      hasMember ((offerWatch st prior s j).notice k).flags 10 =
        (hasMember (s.notice k).flags 10 || (decide (j = k) && watchFires (s.notice k).watch st prior)) := by
  unfold offerWatch
  split
  · next fires =>
    refine ⟨?_, ?_⟩
    · rw [raiseAt, State.modNotice_eq, State.setNotice_notice]
      split
      · next same =>
        subst same
        rfl
      · rfl
    · rw [hasMember_raiseAt]
      by_cases same : j = k
      · subst same
        simp [fires, Notice.bit]
      · simp [same]
  · next no =>
    refine ⟨rfl, ?_⟩
    by_cases same : j = k
    · subst same
      simp [Bool.eq_false_iff.2 no]
    · simp [same]

/-- WATCH is raised exactly where the watch fires (R162). -/
theorem hasMember_offerWatches (st : StreamNo) (prior : Option Word32) (s : State) (k : Port) :
    hasMember ((offerWatches st prior s).notice k).flags 10 =
      (hasMember (s.notice k).flags 10 || watchFires (s.notice k).watch st prior) := by
  have fold : ∀ (l : List Port) (s : State),
      hasMember ((l.foldl (offerWatch st prior) s).notice k).flags 10 =
        (hasMember (s.notice k).flags 10 || (decide (k ∈ l) && watchFires (s.notice k).watch st prior)) := by
    intro l
    induction l with
    | nil => simp
    | cons j rest ih =>
      intro s
      obtain ⟨watch, flag⟩ := offerWatch_notice st prior s j k
      have mem : decide (k ∈ j :: rest) = (decide (j = k) || decide (k ∈ rest)) := by
        rw [← Bool.decide_or]
        simp only [List.mem_cons, eq_comm]
      rw [List.foldl_cons, ih, watch, flag, mem, Bool.and_or_distrib_right, Bool.or_assoc]
  rw [offerWatches_eq, fold]
  simp [mem_allPorts]

/-! ### The page listed (R81, R82) -/

/-- The state after steps 1 to 4 of R82: the page READY and at the end of its stream's ready list. -/
def listedFrame (g : PageNo) (st : StreamNo) (damage : BitVec 6) (s : State) : State :=
  (s.setPage g ((s.page g).published damage (s.stream st).nextSequence s.timeBase)).setStream st
    ((s.stream st).publish g damage)

/-- The state in which a publication evaluates the release rules. -/
def offeredFrame (g : PageNo) (st : StreamNo) (claimed : Nat) (s : State) : State :=
  offerWatches st (s.stream st).lastSequence
    (listedFrame g st (checkedDamage (s.page g) (s.stream st).expectedLines claimed) s)

theorem publish_eq (g : PageNo) (st : StreamNo) (claimed : Nat) (s : State) :
    publish g st claimed s = evaluateRelease st (offeredFrame g st claimed s) := rfl

theorem listedFrame_page (g : PageNo) (st : StreamNo) (damage : BitVec 6) (s : State) (a : PageNo) :
    (listedFrame g st damage s).page a =
      if a = g then (s.page g).published damage (s.stream st).nextSequence s.timeBase else s.page a := by
  rw [listedFrame, State.setStream_page, State.setPage_page]
  simp only [eq_comm]

/-- The listing of a context's frame cuts the context. -/
theorem PoolSound.listedFrame {cut : Port → Tag → Prop} {due : StreamNo → Prop} {s : State}
    (h : PoolSound cut due s) {p : Port} {tg : Tag} {g : PageNo} {st : StreamNo} (notCut : ¬ cut p tg)
    (capturing : s.context p tg = .capturing g) (stream : (s.page g).stream = some st) (damage : BitVec 6) :
    PoolSound (fun q u => cut q u ∨ q = p ∧ u = tg) due (listedFrame g st damage s) := by
  obtain ⟨filling, producer, n, inStream, binding, fills⟩ := h.openFrame notCut capturing
  obtain rfl : n = st := Option.some.inj (inStream.symm.trans stream)
  have upkeep : Upkeep {} s (Machine.listedFrame g n damage s) :=
    .trans (.setPage (fun pages => (pages g).published filling ..) (by simp [Page.published, filling]))
      (.setStream_counters rfl)
  have moves : PageMoves g ((s.page g).published damage (s.stream n).nextSequence s.timeBase) n p tg s
      (Machine.listedFrame g n damage s) :=
    { page := listedFrame_page g n damage s
      unheldBefore := h.holders_of_filling filling
      unheldAfter := h.holders_of_filling filling
      streamBefore := fun m _ is => (Option.some.inj (stream.symm.trans is)).symm
      streamAfter := fun m _ is => (Option.some.inj (stream.symm.trans is)).symm
      producerBefore := fun _ _ is => (Option.some.inj (producer.symm.trans is)).symm
      producerAfter := fun _ is => nomatch is
      slots := fun k => by cases k <;> rfl
      streams := fun m other => State.setStream_stream_ne _ _ other.symm
      binding := by
        rw [Machine.listedFrame, State.setStream_stream_self]
        rfl
      contexts := fun _ _ _ => rfl }
  have record : (Machine.listedFrame g n damage s).stream n = (s.stream n).publish g damage :=
    State.setStream_stream_self ..
  obtain ⟨once, listed, complete, -⟩ := h.streamPages n
  have fresh : g ∉ (s.stream n).ready.map ReadyEntry.page := fun mem => by
    obtain ⟨e, he, same⟩ := List.mem_map.1 mem
    have ready := (listed e he).1
    rw [same, filling] at ready
    cases ready
  refine moves.poolSound h (fun q u other => by simp [other]) ?_ ?_ ⟨fun no => absurd (.inr ⟨rfl, rfl⟩) no, ?_⟩ upkeep
  · rw [StreamPagesExact, record]
    refine ⟨?_, fun e he => ?_, fun a ready is => ?_, fun a => ⟨fun no => (nomatch no), fun ⟨is, inStream⟩ => ?_⟩⟩
    · rw [Stream.publish, List.map_append, List.nodup_append]
      refine ⟨once, List.nodup_singleton _, fun a mem b last same => ?_⟩
      rw [List.map_singleton, List.mem_singleton] at last
      subst last
      exact fresh (same ▸ mem)
    · obtain old | new := List.mem_append.1 he
      · rw [moves.page_ne fun own => fresh (List.mem_map.2 ⟨e, old, own⟩)]
        exact listed e old
      · rw [List.mem_singleton] at new
        subst new
        rw [moves.page_self]
        exact ⟨rfl, stream, rfl⟩
    · rw [Stream.publish, List.map_append, List.mem_append]
      by_cases own : a = g
      · exact .inr (by simp [own])
      · rw [moves.page_ne own] at ready is
        exact .inl (complete a ready is)
    · have other : a ≠ g := fun own => by
        rw [own, moves.page_self] at is
        cases is
      rw [moves.page_ne other] at is inStream
      exact absurd (h.eq_of_stream fills is inStream) other
  · have less : pageCount (Machine.listedFrame g n damage s) n ≤ pageCount s n := pageCount_mono fun a is used => by
      by_cases own : a = g
      · subst own
        exact ⟨stream, by simp [filling]⟩
      · rw [moves.page_ne own] at is used
        exact ⟨is, used⟩
    obtain ⟨within, closed, draining⟩ := h.counts n
    refine ⟨?_, ?_, ?_⟩
    all_goals rw [record]
    · exact less.trans within
    · exact fun is => Nat.le_zero.1 (closed is ▸ less)
    · intro is
      rw [(draining is).1] at fills
      cases fills
  · intro _ a is producer'
    have other : a ≠ g := fun own => by
      rw [own, moves.page_self] at is
      cases is
    rw [moves.page_ne other] at is producer'
    exact other (h.eq_of_producer notCut capturing is producer')

/-! ### FRAME_END GOOD (R61, R80 to R83) -/

theorem publishFrame_eq {g : PageNo} {st : StreamNo} {s : State} (claimed : Nat)
    (filling : (s.page g).state = .filling) (stream : (s.page g).stream = some st) :
    publishFrame g claimed s = publish g st claimed s := by
  simp [publishFrame, filling, stream]

theorem exec_frameEnd_good {p : Port} {tg : Tag} {g : PageNo} {claimed : Word16} {s : State} (out : s.inReset = none)
    (up : (s.capture p).laneUp = true) (inRange : claimed.toNat ≤ 4095)
    (capturing : s.context p tg = .capturing g) :
    exec (.frameEnd p tg 0 claimed) s = .next ((publishFrame g claimed.toNat s).setContext p tg .idle) := by
  have fields : frameEndInRange 0 claimed = true := decide_eq_true inRange
  change execFrameEnd p tg 0 claimed s = _
  rw [execFrameEnd, onLane_taken out up, if_pos fields]
  simp [takeFrameEnd, capturing]

/-- The line checks, flag by flag (R80). -/
theorem hasMember_checkedDamage (r : Page) (expected claimed : Nat) (b : Fin 6) :
    hasMember (checkedDamage r expected claimed) b =
      (hasMember r.damage b || decide (b = 2 ∧ claimed ≠ r.lineCount) ||
        decide (b = 3 ∧ expected ≠ 0 ∧ r.lineCount < expected) ||
        decide (b = 4 ∧ expected ≠ 0 ∧ expected < r.lineCount)) := by
  rw [Bool.eq_iff_iff]
  simp only [checkedDamage, hasMember_addDamage, Bool.or_eq_true, decide_eq_true_eq, Damage.bit]
  tauto

theorem checkedDamage_eq_zero_iff (r : Page) (expected claimed : Nat) :
    checkedDamage r expected claimed = 0#6 ↔
      r.damage = 0#6 ∧ r.lineCount = claimed ∧ (expected = 0 ∨ expected = claimed) := by
  have zero : ∀ set : BitVec 6, set = 0#6 ↔ ∀ b : Fin 6, hasMember set b = false := fun set => by
    rw [← not_iff_not, ← ne_eq, ne_zero_iff_hasMember]
    simp
  rw [zero, zero]
  simp only [hasMember_checkedDamage, Bool.or_eq_false_iff, decide_eq_false_iff_not]
  constructor
  · intro none
    have gap := (none 2).1.1.2
    have short := (none 3).1.2
    have long := (none 4).2
    refine ⟨fun b => (none b).1.1.1, ?_, ?_⟩ <;> simp at gap short long <;> omega
  · rintro ⟨none, lines, expects⟩ b
    refine ⟨⟨⟨none b, ?_⟩, ?_⟩, ?_⟩ <;> omega

/-- The frame that a publication is about: an open frame, its stream open, with the state before the release. -/
structure Publishes (g : PageNo) (st : StreamNo) (claimed : Nat) (s v : State) : Prop where
  exact : StreamPagesExact v st
  page : ∀ a, v.page a = if a = g then (s.page g).published
    (checkedDamage (s.page g) (s.stream st).expectedLines claimed) (s.stream st).nextSequence s.timeBase else s.page a
  stream : v.stream st = (s.stream st).publish g (checkedDamage (s.page g) (s.stream st).expectedLines claimed)
  others : ∀ n, n ≠ st → v.stream n = s.stream n
  freeList : v.freeList = s.freeList
  pool : PoolOnly s v
  watch : ∀ k, hasMember (v.notice k).flags 10 =
    (hasMember (s.notice k).flags 10 || watchFires (s.notice k).watch st (s.stream st).lastSequence)

theorem poolOnly_listedFrame (g : PageNo) (st : StreamNo) (damage : BitVec 6) (s : State) :
    PoolOnly s (listedFrame g st damage s) := (PoolOnly.setPage ..).trans (.setStream ..)

/-- The state in which a publication evaluates the release rules is sound, the context of the frame cut. -/
theorem PoolSound.offeredFrame {cut : Port → Tag → Prop} {due : StreamNo → Prop} {s : State}
    (h : PoolSound cut due s) {p : Port} {tg : Tag} {g : PageNo} {st : StreamNo} (notCut : ¬ cut p tg)
    (capturing : s.context p tg = .capturing g) (stream : (s.page g).stream = some st) (claimed : Nat) :
    PoolSound (fun q u => cut q u ∨ q = p ∧ u = tg) due (offeredFrame g st claimed s) :=
  (h.listedFrame notCut capturing stream _).of_alike
    ((poolSame_offerWatches ..).alike (poolOnly_offerWatches ..)) (Upkeep.offerWatches (x := {}) ..)

theorem PoolSound.publishes {s : State} (h : PoolSound uncut noneDue s) {p : Port} {tg : Tag} {g : PageNo}
    {st : StreamNo} (capturing : s.context p tg = .capturing g) (stream : (s.page g).stream = some st)
    (claimed : Nat) : Publishes g st claimed s (Machine.offeredFrame g st claimed s) := by
  have same := poolSame_offerWatches st (s.stream st).lastSequence
    (Machine.listedFrame g st (checkedDamage (s.page g) (s.stream st).expectedLines claimed) s)
  refine ⟨(h.offeredFrame id capturing stream claimed).streamPages st, fun a => ?_, ?_, fun n other => ?_,
    same.freeList, (poolOnly_listedFrame ..).trans (poolOnly_offerWatches ..), fun k => hasMember_offerWatches ..⟩
  · exact (same.page a).trans (listedFrame_page ..)
  · exact (same.stream st).trans (State.setStream_stream_self ..)
  · exact (same.stream n).trans (State.setStream_stream_ne _ _ other.symm)

namespace Publishes

variable {g : PageNo} {st : StreamNo} {claimed : Nat} {s v : State}

theorem released (h : Publishes g st claimed s v) : Released st v (evaluateRelease st v) :=
  released_evaluateRelease h.exact

theorem holdCount (h : Publishes g st claimed s v) (a : PageNo) : (v.page a).holdCount = (s.page a).holdCount := by
  rw [h.page]
  split
  · next own =>
    subst own
    rfl
  · rfl

end Publishes

/-- The ready list with the page published at its end (R82). -/
def newEntries (g : PageNo) (st : StreamNo) (s : State) : List ReadyEntry :=
  (s.stream st).ready ++ [⟨g, (s.stream st).nextSequence⟩]

namespace Publishes

variable {g : PageNo} {st : StreamNo} {claimed : Nat} {s v : State}

/-- What the release frees, given which entries the rule calls for. -/
theorem release_of_frees (h : Publishes g st claimed s v) {frees : ReadyEntry → Bool}
    (called : ∀ e ∈ newEntries g st s, EvaluationFrees v st e ↔ frees e = true) :
    ((evaluateRelease st v).stream st).ready = (newEntries g st s).filter (fun e => !frees e) ∧
      freedPages v st = ((newEntries g st s).filter frees).map ReadyEntry.page := by
  have ready : (v.stream st).ready = newEntries g st s := by
    rw [h.stream]
    rfl
  have decides : ∀ e ∈ (v.stream st).ready, decide (EvaluationFrees v st e) = frees e := fun e he => by
    rw [Bool.eq_iff_iff, decide_eq_true_eq]
    exact called e (ready ▸ he)
  constructor
  · rw [h.released.stream, ← ready]
    exact List.filter_congr fun e he => congrArg (!·) (decides e he)
  · rw [freedPages, List.filter_congr decides, ready]

theorem isOpen (h : Publishes g st claimed s v) (isOpen : (s.stream st).state.isOpen = true) :
    (v.stream st).state.isOpen = true := by
  rw [h.stream]
  exact isOpen

theorem frees_of_queued (h : Publishes g st claimed s v) (isOpen : (s.stream st).state.isOpen = true)
    (queued : (s.stream st).mode = .queued) (e : ReadyEntry) :
    EvaluationFrees v st e ↔ (s.stream st).subscribers ≠ 0#4 ∧ PassedByEverySubscriber s st e.sequence ∧
      (s.page e.page).holdCount = 0 := by
  rw [EvaluationFrees, ruleCallsFor_of_queued (h.isOpen isOpen) (by rw [h.stream]; exact queued), h.holdCount,
    and_assoc]
  have subscribers : (v.stream st).subscribers = (s.stream st).subscribers := by
    rw [h.stream]
    rfl
  simp only [PassedByEverySubscriber, subscribers, h.pool.egress]

theorem frees_of_latest (h : Publishes g st claimed s v) (isOpen : (s.stream st).state.isOpen = true)
    (latest : (s.stream st).mode = .latest) (e : ReadyEntry) :
    EvaluationFrees v st e ↔ e ≠ ⟨g, (s.stream st).nextSequence⟩ ∧ (s.page e.page).holdCount = 0 := by
  have newest : (v.stream st).ready.getLast? = some ⟨g, (s.stream st).nextSequence⟩ := by
    rw [h.stream]
    simp [Stream.publish]
  rw [EvaluationFrees, ruleCallsFor_of_latest (h.isOpen isOpen) (by rw [h.stream]; exact latest), h.holdCount, newest,
    ne_comm]
  simp

theorem notices (h : Publishes g st claimed s v) (isOpen : (s.stream st).state.isOpen = true) :
    (evaluateRelease st v).notices = v.notices :=
  h.released.notices (.inl ((isOpen_iff _).1 (h.isOpen isOpen)).2)

/-- The page was not listed before. -/
theorem fresh (h : Publishes g st claimed s v) : ∀ e ∈ (s.stream st).ready, e.page ≠ g := fun e he same => by
  have once := h.exact.1
  rw [h.stream, Stream.publish, List.map_append, List.nodup_append] at once
  exact once.2.2 e.page (List.mem_map_of_mem he) g (by simp) same

/-- The listed pages once freed, the others as they were. -/
theorem page_of_frees (h : Publishes g st claimed s v) {frees : ReadyEntry → Bool}
    (called : ∀ e ∈ newEntries g st s, EvaluationFrees v st e ↔ frees e = true) :
    (evaluateRelease st v).page g =
        (if frees ⟨g, (s.stream st).nextSequence⟩ then Page.cleared else v.page g) ∧
      ∀ a, a ≠ g → (evaluateRelease st v).page a =
        if (s.stream st).ready.any (fun e => decide (e.page = a) && frees e) then Page.cleared else s.page a := by
  have freed := (h.release_of_frees called).2
  have mem : ∀ a, a ∈ freedPages v st ↔ (∃ e ∈ (s.stream st).ready, e.page = a ∧ frees e = true) ∨
      (g = a ∧ frees ⟨g, (s.stream st).nextSequence⟩ = true) := fun a => by
    rw [freed, newEntries]
    simp only [List.mem_map, List.mem_filter, List.mem_append, List.mem_singleton]
    constructor
    · rintro ⟨e, ⟨old | rfl, frees⟩, same⟩
      · exact .inl ⟨e, old, same, frees⟩
      · exact .inr ⟨same, frees⟩
    · rintro (⟨e, old, same, frees⟩ | ⟨same, frees⟩)
      · exact ⟨e, ⟨.inl old, frees⟩, same⟩
      · exact ⟨_, ⟨.inr rfl, frees⟩, same⟩
  constructor
  · rw [h.released.page]
    refine if_congr ?_ rfl rfl
    rw [mem]
    exact ⟨fun is => is.elim (fun ⟨e, he, same, _⟩ => absurd same (h.fresh e he)) And.right,
      fun is => .inr ⟨rfl, is⟩⟩
  · intro a other
    rw [h.released.page, h.page, if_neg other]
    refine if_congr ?_ rfl rfl
    rw [mem, List.any_eq_true]
    simp only [Bool.and_eq_true, decide_eq_true_eq, other.symm, false_and, or_false]

/-- A release of an open stream touches, of its record, the ready list and the reclaimed counter (R86). -/
theorem stream_of_open (h : Publishes g st claimed s v) (isOpen : (s.stream st).state.isOpen = true) :
    ∃ ready reclaimed, (evaluateRelease st v).stream st =
      { v.stream st with ready := ready, reclaimed := reclaimed } := by
  have notDraining := ((isOpen_iff _).1 (h.isOpen isOpen)).2
  exact ⟨_, _, by rw [h.released.stream, if_neg fun both => notDraining both.1, if_neg fun both => notDraining both.1]⟩

end Publishes

theorem isOpen_of_bound {s : State} (bindings : BindingsAgree s) {st : StreamNo} {pr : Pair}
    (bound : (s.stream st).binding = some pr) : (s.stream st).state.isOpen = true :=
  (bindings.1 st).1.1 (by rw [bound]; rfl)

/-- A page of a stream that is not the one filling is listed. -/
theorem PoolSound.listed_of_unfilled {cut : Port → Tag → Prop} {due : StreamNo → Prop} {s : State}
    (h : PoolSound cut due s) {st : StreamNo} {f g : PageNo} (fills : (s.stream st).filling = some f)
    (stream : (s.page g).stream = some st) (other : g ≠ f) : g ∈ (s.stream st).ready.map ReadyEntry.page := by
  cases is : (s.page g).state with
  | free =>
    have cleared := (h.pages g).2.2.1.1 is
    rw [cleared] at stream
    cases stream
  | filling => exact absurd (h.eq_of_stream fills is stream) other
  | ready => exact (h.streamPages st).2.2.1 g is stream

/-- Settles O45: the listed page and the watches before the release, the two rules of `Publishes` for the release. -/
theorem publicationNumbersThePage : Obligations.PublicationNumbersThePage := by
  intro p tg claimed s g st r coherent out up inRange capturing stream hr
  subst hr
  have sound := coherent.poolSound
  obtain ⟨filling, -, n, inStream, bound, fills⟩ := sound.openFrame id capturing
  obtain rfl : n = st := Option.some.inj (inStream.symm.trans stream)
  have isOpen := isOpen_of_bound coherent.bindings bound
  have publishes := sound.publishes capturing stream claimed.toNat
  have run := exec_frameEnd_good out up inRange capturing
  rw [publishFrame_eq _ filling stream, publish_eq] at run
  generalize offeredFrame g n claimed.toNat s = v at publishes run
  have released := publishes.released
  have kept := PoolOnly.evaluateRelease n v
  obtain ⟨ready, reclaimed, record⟩ := publishes.stream_of_open isOpen
  have notices := publishes.notices isOpen
  have lists := @publishes.release_of_frees
  have pages := @publishes.page_of_frees
  have queuedFrees := publishes.frees_of_queued isOpen
  have latestFrees := publishes.frees_of_latest isOpen
  have publishedPage : v.page g = _ := (publishes.page g).trans (if_pos rfl)
  generalize evaluateRelease n v = t at run released kept record notices lists pages
  rw [publishes.stream] at record
  have flag : ∀ j, hasMember (t.notice j).flags 10 =
      (hasMember (s.notice j).flags 10 || watchFires (s.notice j).watch n (s.stream n).lastSequence) := fun j => by
    rw [State.notice, notices]
    exact publishes.watch j
  refine ⟨_, run, State.setContext_context_self .., congrArg Stream.nextSequence record,
    congrArg Stream.lastSequence record, congrArg Stream.published record, congrArg Stream.filling record,
    (congrArg Stream.state record).trans rfl, (congrArg Stream.skipped record).trans rfl,
    (congrArg Stream.aborted record).trans rfl, ?_,
    fun j w watch named compare => ?_, fun j no => ?_,
    fun m other => (released.others m other).trans (publishes.others m other),
    kept.egresses.trans publishes.pool.egresses, kept.pins.trans publishes.pool.pins,
    kept.frameStore.trans publishes.pool.frameStore, hasMember_checkedDamage _ _ _, ?_, ?_⟩
  · refine (congrArg Stream.damaged record).trans ?_
    exact if_congr (checkedDamage_eq_zero_iff ..) rfl rfl
  · refine (flag j).trans ?_
    simp [watchFires, watch, named, compare]
  · refine (flag j).trans ?_
    have none : watchFires (s.notice j).watch n (s.stream n).lastSequence = false := by
      unfold watchFires
      split
      · rfl
      · next w watch =>
        by_cases named : w.stream = n
        · rw [decide_eq_true named, Bool.true_and]
          exact decide_eq_false fun same => no w watch named same.symm
        · rw [decide_eq_false named, Bool.false_and]
    rw [none, Bool.or_false]
  · intro queued entries frees hEntries hFrees
    subst hEntries
    have called : ∀ e ∈ newEntries g n s, EvaluationFrees v n e ↔ frees e = true := fun e _ => by
      rw [queuedFrees queued, hFrees, decide_eq_true_eq]
    obtain ⟨readyEq, freed⟩ := lists called
    obtain ⟨pageSelf, pageNe⟩ := pages called
    refine ⟨readyEq, ?_, pageNe, ?_⟩
    · rw [publishedPage] at pageSelf
      exact pageSelf
    · exact released.freeList.trans (by rw [publishes.freeList, freed]; rfl)
  · intro latest
    have called : ∀ e ∈ newEntries g n s, EvaluationFrees v n e ↔
        decide (e ≠ ⟨g, (s.stream n).nextSequence⟩ ∧ (s.page e.page).holdCount = 0) = true := fun e _ => by
      rw [latestFrees latest, decide_eq_true_eq]
    obtain ⟨readyEq, freed⟩ := lists called
    obtain ⟨pageSelf, pageNe⟩ := pages called
    have old : ∀ e ∈ (s.stream n).ready,
        decide (e ≠ ⟨g, (s.stream n).nextSequence⟩ ∧ (s.page e.page).holdCount = 0) =
          decide ((s.page e.page).holdCount = 0) := fun e he => by
      have other : e ≠ ⟨g, (s.stream n).nextSequence⟩ := fun same => publishes.fresh e he (by rw [same])
      simp [other]
    refine ⟨?_, ?_, fun h other => ?_, ?_⟩
    · refine readyEq.trans ?_
      rw [newEntries, List.filter_append, List.filter_congr fun e he => congrArg (!·) (old e he)]
      simp
    · rw [publishedPage] at pageSelf
      exact pageSelf.trans (if_neg (by simp))
    · refine (pageNe h other).trans (if_congr ?_ rfl rfl)
      simp only [List.any_eq_true, Bool.and_eq_true, decide_eq_true_eq]
      constructor
      · rintro ⟨e, he, rfl, -, unheld⟩
        exact ⟨((sound.streamPages n).2.1 e he).2.1, unheld⟩
      · rintro ⟨inStream, unheld⟩
        obtain ⟨e, he, same⟩ := List.mem_map.1 (sound.listed_of_unfilled fills inStream other)
        have newer : e ≠ ⟨g, (s.stream n).nextSequence⟩ := fun same => publishes.fresh e he (by rw [same])
        exact ⟨e, he, same, newer, same ▸ unheld⟩
    · refine released.freeList.trans ?_
      rw [publishes.freeList, freed, newEntries, List.filter_append, List.filter_congr old]
      simp

end Sys2Proof.Machine

/-! What a reset of the part leaves is coherent (R171). -/

namespace Sys2Proof.Machine

namespace AtReset

variable {t : State}

theorem pageCount_eq_zero (h : AtReset t) (st : StreamNo) : pageCount t st = 0 :=
  List.countP_eq_zero.2 fun g _ => by simp [h.page, Page.cleared]

theorem context (h : AtReset t) (p : Port) (tg : Tag) : t.context p tg = .idle := by
  rw [State.context, h.capture]
  exact Table.get_replicate ..

/-- Every page FREE, every stream CLOSED, every context IDLE: nothing is left to agree with. -/
theorem poolSound (h : AtReset t) : PoolSound uncut noneDue t where
  freeList := h.freeListExact
  pages := h.pages
  holders := (holdersExact_iff t).2 fun g k => by
    have member : hasMember (t.page g).holders k.bit = false := by
      rw [h.page]
      exact BitVec.getElem_zero ..
    have slot : k.slot t = none := by
      cases k with
      | egress p => exact congrArg Egress.held (h.egress p)
      | pin p => exact h.pin p
    simp [member, slot]
  streamPages st := by
    rw [StreamPagesExact, h.stream]
    refine ⟨List.nodup_nil, fun e he => (nomatch he), fun g ready => ?_,
      fun g => ⟨fun no => (nomatch no), fun ⟨is, _⟩ => ?_⟩⟩
    · rw [h.page] at ready
      cases ready
    · rw [h.page] at is
      cases is
  counts st := by
    refine ⟨?_, fun _ => h.pageCount_eq_zero st, fun draining => ?_⟩
    · rw [h.pageCount_eq_zero]
      exact Nat.zero_le _
    · rw [h.stream] at draining
      cases draining
  contexts p tg := by
    refine ⟨fun _ g => ⟨?_, fun capturing => ?_⟩, fun cut => cut.elim⟩
    · rw [h.context, h.page]
      exact ⟨fun no => (nomatch no), fun no => (nomatch no.1)⟩
    · rw [h.context] at capturing
      cases capturing

theorem egressesWellKept (h : AtReset t) : EgressesWellKept t := fun p => by
  rw [h.egress]
  exact Egress.wellKept_initial

theorem commitmentsFit (h : AtReset t) : CommitmentsFit t := by
  refine ⟨?_, fun st => ?_⟩
  · have none : committedSum t = 0 := by simp [committedSum, h.stream, committedQuota, Stream.initial]
    rw [none]
    exact Nat.zero_le _
  · rw [h.stream]
    decide

theorem coherent (h : AtReset t) : Coherent t :=
  h.poolSound.coherent h.commitmentsFit h.relationsHold h.egressesWellKept

end AtReset

/-- Settles O59: the records of the reset state are the initial ones, each within its own invariant. -/
theorem resetStateMeetsTheInvariants : Obligations.ResetStateMeetsTheInvariants := by
  refine ⟨atReset_reset.coherent, fun p => ?_, ⟨fun e => ?_, fun p c copied => ?_⟩, fun p k sent => ?_,
    List.Pairwise.nil, fun c stored => nomatch stored⟩
  · rw [State.reset_notice]
    exact NoticeUnit.agrees_initial
  · rw [State.reset_pattern]
    exact PatternEntry.wellKept_cleared
  · rw [State.reset_egress] at copied
    cases copied
  · rw [State.reset_egress] at sent
    cases sent

end Sys2Proof.Machine

/-! FRAME_START (R39, R54 to R56, R75 to R78). -/

namespace Sys2Proof.Machine

/-! ### The stream of the frame becomes LIVE (R39) -/

/-- OWN_RESUME lands at the owner with the stream in its set (R25, R156). -/
theorem raiseOwn_resume_raises {st : StreamNo} {o : Port} {s : State} (owner : (s.stream st).owner = some o) :
    hasMember ((raiseOwn .resume st s).notice o).flags 1 = true ∧
      hasMember ((raiseOwn .resume st s).notice o).resumeSet st = true := by
  simp [raiseOwn, owner, NoticeUnit.raise, NoticeUnit.settle, NoticeUnit.joinSet, OwnNotice.bit,
    hasMember_addMember]

/-- The state in which a FRAME_START asks for a page: the stream LIVE, its timer loaded, its interval measured. -/
def startedFrame (st : StreamNo) (s : State) : State :=
  (becomeLive st s).modStream st fun r => r.frameStarted s.timeBase

/-- The record of an open stream after R39. -/
def Stream.started (r : Stream) (time : Word32) : Stream := { r.frameStarted time with state := .live }

theorem frameStartFor_eq (p : Port) (tg : Tag) (st : StreamNo) (kind : Byte) (number : Word16) (s : State) :
    frameStartFor p tg st kind number s = admitFrame p tg st kind number (startedFrame st s) := rfl

theorem poolOnly_becomeLive (st : StreamNo) (s : State) : PoolOnly s (becomeLive st s) := by
  unfold becomeLive
  split
  · exact .setStream ..
  · exact (PoolOnly.setStream ..).trans (.raiseOwn ..)
  · exact .refl s

theorem poolOnly_startedFrame (st : StreamNo) (s : State) : PoolOnly s (startedFrame st s) :=
  (poolOnly_becomeLive ..).trans (.setStream ..)

/-- What R39 leaves of an open stream and of the pool. -/
structure Starts (st : StreamNo) (s t : State) : Prop where
  stream : t.stream st = (s.stream st).started s.timeBase
  others : ∀ n, n ≠ st → t.stream n = s.stream n
  pages : t.pages = s.pages
  freeList : t.freeList = s.freeList
  pool : PoolOnly s t
  notices : (s.stream st).state ≠ .stalled → t.notices = s.notices
  raises : (s.stream st).state = .stalled → ∀ o, (s.stream st).owner = some o →
    hasMember (t.notice o).flags 1 = true ∧ hasMember (t.notice o).resumeSet st = true

theorem starts_startedFrame {st : StreamNo} {s : State} (isOpen : (s.stream st).state.isOpen = true) :
    Starts st s (startedFrame st s) := by
  have pool := poolOnly_startedFrame st s
  unfold startedFrame becomeLive at pool ⊢
  cases state : (s.stream st).state with
  | waiting =>
    rw [state] at pool
    exact ⟨by simp [Stream.started, Stream.frameStarted],
      fun n other => by simp [State.setStream_stream_ne _ _ other.symm], rfl, rfl, pool, fun _ => rfl,
      fun is => nomatch state.symm.trans is⟩
  | stalled =>
    rw [state] at pool
    refine ⟨by simp [Stream.started, Stream.frameStarted],
      fun n other => by simp [State.setStream_stream_ne _ _ other.symm], by simp, by simp, pool,
      fun no => absurd state no, fun _ o owner => ?_⟩
    exact raiseOwn_resume_raises (s := s.modStream st fun r => { r with state := .live }) (by simpa using owner)
  | live =>
    rw [state] at pool
    exact ⟨by simp [Stream.started, Stream.frameStarted, state],
      fun n other => by simp [State.setStream_stream_ne _ _ other.symm], rfl, rfl, pool, fun _ => rfl,
      fun is => nomatch state.symm.trans is⟩
  | closed => simp [state, StreamState.isOpen] at isOpen
  | draining => simp [state, StreamState.isOpen] at isOpen

namespace Starts

variable {st : StreamNo} {s t : State}

theorem page (h : Starts st s t) (g : PageNo) : t.page g = s.page g := by simp [State.page, h.pages]

theorem pageCount (h : Starts st s t) (n : StreamNo) : pageCount t n = pageCount s n := by
  simp only [Machine.pageCount, h.page]

theorem alike (h : Starts st s t) (isOpen : (s.stream st).state.isOpen = true) : Alike s t where
  page g := h.page g ▸ .refl _
  stream n := by
    by_cases own : n = st
    · subst own
      rw [h.stream]
      have was := (isOpen_iff _).1 isOpen
      exact ⟨by simp [Stream.started, was.1], by simp [Stream.started, was.2], rfl, rfl, rfl, rfl⟩
    · rw [h.others n own]
      exact .refl _
  held p := by rw [h.pool.egress]
  pin p := h.pool.pin p
  context p tg := h.pool.context p tg

end Starts

theorem upkeep_startedFrame {st : StreamNo} {s : State} {pr : Pair} (bound : (s.stream st).binding = some pr) :
    Upkeep {} s (startedFrame st s) := by
  have live : Upkeep {} s (becomeLive st s) := .becomeLive st s
  have stillBound : ((becomeLive st s).stream st).binding ≠ none := by
    rw [(live.streams st not_false).binding, bound]
    exact nofun
  exact live.trans (.setStream (.inr ⟨rfl, rfl, rfl, rfl, rfl, rfl, .refl _, fun unbound => absurd unbound stillBound⟩)
    fun _ _ => rfl)

/-! ### The page of the frame (R7, R8, R75 to R78) -/

/-- The state after an allocation: the head of the free list is the filling page (R7, R76, R77). -/
def allocatedFrame (p : Port) (tg : Tag) (st : StreamNo) (g : PageNo) (rest : List PageNo) (start : Page)
    (s : State) : State := fillPage p tg st g ({ s with freeList := rest }.setPage g start)

/-- The state after a reclaim: a listed page is the filling page (R8, R76, R77). -/
def reclaimedFrame (p : Port) (tg : Tag) (st : StreamNo) (g : PageNo) (start : Page) (s : State) : State :=
  fillPage p tg st g ((leaveReadyList st g s).setPage g start)

section admitFrame

variable {p : Port} {tg : Tag} {st : StreamNo} {kind : Byte} {number : Word16} {s : State}

theorem admitFrame_of_below {g : PageNo} {rest : List PageNo} (below : pageCount s st < (s.stream st).quota)
    (head : s.freeList = g :: rest) : admitFrame p tg st kind number s =
      allocatedFrame p tg st g rest (Page.starting st ⟨p, tg⟩ kind number s.timeBase) s := by
  simp only [admitFrame, admittedPage, if_pos below, allocate, head]
  rfl

theorem admitFrame_of_reclaim {e : ReadyEntry} (full : (s.stream st).quota ≤ pageCount s st)
    (allowed : ¬ ((s.stream st).mode = .queued ∧ (s.stream st).subscribers ≠ 0#4))
    (found : (s.stream st).ready.find? (fun e => unheldReady s e.page) = some e) :
    admitFrame p tg st kind number s =
      reclaimedFrame p tg st e.page (Page.starting st ⟨p, tg⟩ kind number s.timeBase) s := by
  simp only [admitFrame, admittedPage, if_neg (Nat.not_lt.2 full), if_neg allowed, reclaim, found]
  rfl

theorem admitFrame_of_none (full : (s.stream st).quota ≤ pageCount s st)
    (refused : ((s.stream st).mode = .queued ∧ (s.stream st).subscribers ≠ 0#4) ∨
      (s.stream st).ready.find? (fun e => unheldReady s e.page) = none) :
    admitFrame p tg st kind number s = skipFrame p tg st s := by
  simp only [admitFrame, admittedPage, if_neg (Nat.not_lt.2 full)]
  by_cases queued : (s.stream st).mode = .queued ∧ (s.stream st).subscribers ≠ 0#4
  · rw [if_pos queued]
  · rw [if_neg queued, reclaim, refused.resolve_left queued]

/-- Admission allocates, reclaims or skips (R75). -/
theorem admitFrame_cases (p : Port) (tg : Tag) (st : StreamNo) (kind : Byte) (number : Word16) (s : State) :
    (∃ g rest, pageCount s st < (s.stream st).quota ∧ s.freeList = g :: rest ∧
        admitFrame p tg st kind number s =
          allocatedFrame p tg st g rest (Page.starting st ⟨p, tg⟩ kind number s.timeBase) s) ∨
      (∃ e ∈ (s.stream st).ready, (s.page e.page).state = .ready ∧ (s.page e.page).holdCount = 0 ∧
        admitFrame p tg st kind number s =
          reclaimedFrame p tg st e.page (Page.starting st ⟨p, tg⟩ kind number s.timeBase) s) ∨
      admitFrame p tg st kind number s = skipFrame p tg st s := by
  unfold admitFrame
  split
  · next g u admitted =>
    obtain ⟨below, rest, head, rfl⟩ | ⟨-, e, found, rfl, rfl⟩ := admittedPage_cases admitted
    · exact .inl ⟨g, rest, below, head, rfl⟩
    · have unheld : unheldReady s e.page = true := by simpa using List.find?_some found
      obtain ⟨ready, count⟩ := (unheldReady_iff ..).1 unheld
      exact .inr (.inl ⟨e, List.mem_of_find?_eq_some found, ready, count, rfl⟩)
  · exact .inr (.inr rfl)

end admitFrame

/-- A stream takes page `g` as its filling page, under the record `r` and captured by context `tg` of port `p`. -/
structure Fills (g : PageNo) (r : Page) (st : StreamNo) (p : Port) (tg : Tag) (s t : State) : Prop where
  page : ∀ a, t.page a = if a = g then r else s.page a
  filling : (t.stream st).filling = some g
  ready : (t.stream st).ready = (s.stream st).ready.filter fun e => decide (e.page ≠ g)
  state : (t.stream st).state = (s.stream st).state
  quota : (t.stream st).quota = (s.stream st).quota
  binding : (t.stream st).binding = (s.stream st).binding
  others : ∀ n, n ≠ st → t.stream n = s.stream n
  capturing : t.context p tg = .capturing g
  contexts : ∀ q u, ¬ (q = p ∧ u = tg) → t.context q u = s.context q u
  slots : ∀ k : Holder, k.slot t = k.slot s

section Frames

variable (p : Port) (tg : Tag) (st : StreamNo) (g : PageNo) (rest : List PageNo) (start : Page) (s : State)

theorem allocatedFrame_stream_self : (allocatedFrame p tg st g rest start s).stream st =
    { s.stream st with filling := some g } := by
  simp only [allocatedFrame, fillPage, State.setContext_stream, State.modStream_eq, State.setStream_stream_self]
  rfl

theorem allocatedFrame_stream_ne {n : StreamNo} (other : n ≠ st) :
    (allocatedFrame p tg st g rest start s).stream n = s.stream n := by
  simp only [allocatedFrame, fillPage, State.setContext_stream, State.modStream_eq,
    State.setStream_stream_ne _ _ other.symm]
  rfl

theorem allocatedFrame_page (a : PageNo) :
    (allocatedFrame p tg st g rest start s).page a = if a = g then start else s.page a :=
  (State.setPage_page ..).trans (if_congr eq_comm rfl rfl)

theorem reclaimedFrame_stream_self : (reclaimedFrame p tg st g start s).stream st =
    { s.stream st with
      filling := some g
      ready := (s.stream st).ready.filter fun e => decide (e.page ≠ g)
      reclaimed := if (s.page g).viewed then (s.stream st).reclaimed else (s.stream st).reclaimed + 1 } := by
  simp only [reclaimedFrame, fillPage, leaveReadyList, State.setContext_stream, State.modStream_eq,
    State.setStream_stream_self, State.setPage_stream]

theorem reclaimedFrame_stream_ne {n : StreamNo} (other : n ≠ st) :
    (reclaimedFrame p tg st g start s).stream n = s.stream n := by
  simp only [reclaimedFrame, fillPage, leaveReadyList, State.setContext_stream, State.modStream_eq,
    State.setStream_stream_ne _ _ other.symm, State.setPage_stream]

theorem reclaimedFrame_page (a : PageNo) :
    (reclaimedFrame p tg st g start s).page a = if a = g then start else s.page a :=
  (State.setPage_page ..).trans (if_congr eq_comm rfl rfl)

theorem fillPage_context_self : (fillPage p tg st g s).context p tg = .capturing g :=
  State.setContext_context_self ..

theorem fillPage_context_ne {q : Port} {u : Tag} (other : ¬ (q = p ∧ u = tg)) :
    (fillPage p tg st g s).context q u = s.context q u := by
  rw [fillPage, State.setContext_context, if_neg fun same => other ⟨same.1.symm, same.2.symm⟩]
  rfl

theorem fills_allocatedFrame (fresh : ∀ e ∈ (s.stream st).ready, e.page ≠ g) :
    Fills g start st p tg s (allocatedFrame p tg st g rest start s) where
  page := allocatedFrame_page p tg st g rest start s
  filling := by rw [allocatedFrame_stream_self]
  ready := by
    rw [allocatedFrame_stream_self, List.filter_eq_self.2 fun e he => decide_eq_true (fresh e he)]
  state := by rw [allocatedFrame_stream_self]
  quota := by rw [allocatedFrame_stream_self]
  binding := by rw [allocatedFrame_stream_self]
  others n other := allocatedFrame_stream_ne p tg st g rest start s other
  capturing := fillPage_context_self ..
  contexts q u other := (fillPage_context_ne _ _ _ _ _ other).trans rfl
  slots k := by cases k <;> rfl

theorem fills_reclaimedFrame : Fills g start st p tg s (reclaimedFrame p tg st g start s) where
  page := reclaimedFrame_page p tg st g start s
  filling := by rw [reclaimedFrame_stream_self]
  ready := by rw [reclaimedFrame_stream_self]
  state := by rw [reclaimedFrame_stream_self]
  quota := by rw [reclaimedFrame_stream_self]
  binding := by rw [reclaimedFrame_stream_self]
  others n other := reclaimedFrame_stream_ne p tg st g start s other
  capturing := fillPage_context_self ..
  contexts q u other := (fillPage_context_ne _ _ _ _ _ other).trans rfl
  slots k := by cases k <;> rfl

end Frames

theorem PoolSound.holders_of_unheld {cut : Port → Tag → Prop} {due : StreamNo → Prop} {s : State}
    (h : PoolSound cut due s) {g : PageNo} (unheld : (s.page g).holdCount = 0) : (s.page g).holders = 0#8 :=
  (countMembers_eq_zero_iff _).1 ((h.pages g).2.2.2.1.symm.trans unheld)

/-- A stream bound to a context that is cut has no FILLING page. -/
theorem PoolSound.not_filling_of_cut {cut : Port → Tag → Prop} {due : StreamNo → Prop} {s : State}
    (h : PoolSound cut due s) {p : Port} {tg : Tag} {st : StreamNo} (isCut : cut p tg)
    (bound : (s.stream st).binding = some ⟨p, tg⟩) {a : PageNo} (stream : (s.page a).stream = some st) :
    (s.page a).state ≠ .filling := fun filling => by
  obtain ⟨⟨q, u⟩, producer⟩ := Option.isSome_iff_exists.1 ((h.pages a).2.2.1.2.1 (by simp [filling])).2
  by_cases already : cut q u
  · exact (h.contexts q u).none already a filling producer
  · obtain ⟨iff, binds⟩ := (h.contexts q u).capturing already a
    obtain ⟨n, stream', bound'⟩ := binds (iff.2 ⟨filling, producer⟩)
    obtain rfl : n = st := Option.some.inj (stream'.symm.trans stream)
    have same := Option.some.inj (bound'.symm.trans bound)
    simp only [Pair.mk.injEq] at same
    exact already (same.1 ▸ same.2 ▸ isCut)

/-- A frame that gets a page: its context is no longer cut. -/
theorem PoolSound.fills {cut : Port → Tag → Prop} {due : StreamNo → Prop} {x : Exempt} {s t : State} {p : Port}
    {tg : Tag} {st : StreamNo} {g : PageNo} {kind : Byte} {number : Word16} {time : Word32}
    (h : PoolSound (fun q u => cut q u ∨ q = p ∧ u = tg) due s) (notCut : ¬ cut p tg)
    (fills : Fills g (Page.starting st ⟨p, tg⟩ kind number time) st p tg s t)
    (bound : (s.stream st).binding = some ⟨p, tg⟩) (isOpen : (s.stream st).state.isOpen = true)
    (given : (s.page g).state = .free ∨
      (s.page g).state = .ready ∧ (s.page g).holdCount = 0 ∧ (s.page g).stream = some st)
    (within : pageCount t st ≤ (s.stream st).quota) (upkeep : Upkeep x s t) : PoolSound cut due t := by
  have notFilling : (s.page g).state ≠ .filling := by
    obtain free | ⟨ready, -⟩ := given
    · simp [free]
    · simp [ready]
  have moves : PageMoves g (Page.starting st ⟨p, tg⟩ kind number time) st p tg s t :=
    { page := fills.page
      unheldBefore := by
        obtain free | ⟨-, unheld, -⟩ := given
        · rw [(h.pages g).2.2.1.1 free]
          rfl
        · exact h.holders_of_unheld unheld
      unheldAfter := rfl
      streamBefore := fun n used is => by
        obtain free | ⟨-, -, stream⟩ := given
        · exact absurd free used
        · exact Option.some.inj (is.symm.trans stream)
      streamAfter := fun n _ is => (Option.some.inj is).symm
      producerBefore := fun _ filling => absurd filling notFilling
      producerAfter := fun _ _ is => (Option.some.inj is).symm
      slots := fills.slots
      streams := fills.others
      binding := fills.binding
      contexts := fills.contexts }
  obtain ⟨once, listed, complete, -⟩ := h.streamPages st
  refine moves.poolSound h (fun q u other => by simp [other]) ?_ ?_ ⟨fun _ a => ⟨?_, ?_⟩, fun is => absurd is notCut⟩
    upkeep
  · rw [StreamPagesExact, fills.ready, fills.filling]
    refine ⟨(List.filter_sublist.map _).nodup once, fun e he => ?_, fun a ready stream => ?_, fun a => ⟨?_, ?_⟩⟩
    · obtain ⟨mem, other⟩ := List.mem_filter.1 he
      rw [moves.page_ne (of_decide_eq_true other)]
      exact listed e mem
    · have other : a ≠ g := fun own => by
        rw [own, moves.page_self] at ready
        cases ready
      rw [moves.page_ne other] at ready stream
      obtain ⟨e, mem, same⟩ := List.mem_map.1 (complete a ready stream)
      exact List.mem_map.2 ⟨e, List.mem_filter.2 ⟨mem, decide_eq_true (same ▸ other)⟩, same⟩
    · rintro ⟨⟩
      rw [moves.page_self]
      exact ⟨rfl, rfl⟩
    · rintro ⟨filling, stream⟩
      by_contra ne
      have other : a ≠ g := fun own => ne (by rw [own])
      rw [moves.page_ne other] at filling stream
      exact h.not_filling_of_cut (.inr ⟨rfl, rfl⟩) bound stream filling
  · obtain ⟨notClosed, notDraining⟩ := (isOpen_iff _).1 isOpen
    refine ⟨?_, ?_, ?_⟩
    · rwa [fills.quota]
    · rw [fills.state]
      exact fun is => absurd is notClosed
    · rw [fills.state]
      exact fun is => absurd is notDraining
  · rw [fills.capturing]
    constructor
    · rintro ⟨⟩
      rw [moves.page_self]
      exact ⟨rfl, rfl⟩
    · rintro ⟨filling, producer⟩
      by_contra ne
      have other : a ≠ g := fun own => ne (by rw [own])
      rw [moves.page_ne other] at filling producer
      exact (h.contexts p tg).none (.inr ⟨rfl, rfl⟩) a filling producer
  · rw [fills.capturing]
    rintro ⟨⟩
    rw [moves.page_self]
    exact ⟨st, rfl, fills.binding.trans bound⟩

theorem Fills.pageCount_le {g : PageNo} {r : Page} {st : StreamNo} {p : Port} {tg : Tag} {s t : State}
    (h : Fills g r st p tg s t) : pageCount t st ≤ pageCount s st + 1 := by
  rw [pageCount_eq_card, pageCount_eq_card]
  refine le_trans (Finset.card_le_card fun a mem => ?_) (Finset.card_insert_le g _)
  simp only [Finset.mem_filter, Finset.mem_univ, true_and, Finset.mem_insert, h.page] at mem ⊢
  by_cases own : a = g
  · exact .inl own
  · rw [if_neg own] at mem
    exact .inr mem

theorem Fills.pageCount_le_of_ready {g : PageNo} {r : Page} {st : StreamNo} {p : Port} {tg : Tag} {s t : State}
    (h : Fills g r st p tg s t) (ready : (s.page g).state = .ready) (stream : (s.page g).stream = some st) :
    pageCount t st ≤ pageCount s st := pageCount_mono fun a is used => by
  by_cases own : a = g
  · subst own
    exact ⟨stream, by simp [ready]⟩
  · rw [h.page, if_neg own] at is used
    exact ⟨is, used⟩

/-! ### Records replaced by records that agree with the pool alike -/

theorem alike_setStream {s : State} {st : StreamNo} {r : Stream} (h : StreamAlike (s.stream st) r) :
    Alike s (s.setStream st r) where
  page _ := .refl _
  stream n := by
    by_cases own : n = st
    · subst own
      rwa [State.setStream_stream_self]
    · rw [State.setStream_stream_ne _ _ (Ne.symm own)]
      exact .refl _
  held _ := rfl
  pin _ := rfl
  context _ _ := rfl

theorem alike_setCapture {s : State} {p : Port} {v : Capture} (same : v.contexts = (s.capture p).contexts) :
    Alike s (s.setCapture p v) where
  page _ := .refl _
  stream _ := .refl _
  held _ := rfl
  pin _ := rfl
  context q u := by
    by_cases own : p = q
    · subst own
      rw [State.context, State.setCapture_capture_self, same, State.context]
    · rw [State.context, State.setCapture_capture_ne _ _ own, State.context]

theorem Alike.trans {s t u : State} (h : Alike s t) (k : Alike t u) : Alike s u where
  page g := ⟨(k.page g).state.trans (h.page g).state, (k.page g).stream.trans (h.page g).stream,
    (k.page g).producer.trans (h.page g).producer, (k.page g).sequence.trans (h.page g).sequence,
    (k.page g).holders.trans (h.page g).holders, (k.page g).holdCount.trans (h.page g).holdCount⟩
  stream n := ⟨(k.stream n).closed.trans (h.stream n).closed, (k.stream n).draining.trans (h.stream n).draining,
    (k.stream n).ready.trans (h.stream n).ready, (k.stream n).filling.trans (h.stream n).filling,
    (k.stream n).binding.trans (h.stream n).binding, (k.stream n).quota.trans (h.stream n).quota⟩
  held p := (k.held p).trans (h.held p)
  pin p := (k.pin p).trans (h.pin p)
  context p tg := (k.context p tg).trans (h.context p tg)

theorem alike_raiseAt (p : Port) (n : Notice) (s : State) : Alike s (raiseAt p n s) :=
  (PoolSame.raiseAt p n s).alike (.raiseAt ..)

/-! ### A FRAME_START keeps the pool sound -/

section Sound

variable {cut : Port → Tag → Prop} {due : StreamNo → Prop} {s : State} {p : Port} {tg : Tag} {st : StreamNo}

theorem PoolSound.skipFrame (h : PoolSound (fun q u => cut q u ∨ q = p ∧ u = tg) due s) (notCut : ¬ cut p tg) :
    PoolSound cut due (skipFrame p tg st s) :=
  (h.setContext notCut (c := .discarding) fun _ no => nomatch no).of_alike
    (.trans (t := (s.setContext p tg .discarding).modStream st fun r => { r with skipped := r.skipped + 1 })
      (alike_setStream ⟨.rfl, .rfl, rfl, rfl, rfl, rfl⟩) (.raiseOwn ..))
    (x := {}) ((Upkeep.setStream_counters rfl).trans (.raiseOwn ..))

theorem PoolSound.rejectFrame (h : PoolSound (fun q u => cut q u ∨ q = p ∧ u = tg) due s) (notCut : ¬ cut p tg) :
    PoolSound cut due (rejectFrame p tg s) :=
  (h.setContext notCut (c := .discarding) fun _ no => nomatch no).of_alike
    (.trans (t := (s.setContext p tg .discarding).modCapture p fun u => { u with rejects := u.rejects + 1 })
      (alike_setCapture rfl) (alike_raiseAt ..))
    (x := { capture := (· = p) }) ((Upkeep.setCapture rfl ..).trans (.raiseAt ..))

theorem PoolSound.admitFrame {kind : Byte} {number : Word16}
    (h : PoolSound (fun q u => cut q u ∨ q = p ∧ u = tg) due s) (notCut : ¬ cut p tg)
    (bound : (s.stream st).binding = some ⟨p, tg⟩) (isOpen : (s.stream st).state.isOpen = true)
    (inRange : kind.toNat ≤ 63) : PoolSound cut due (admitFrame p tg st kind number s) := by
  have upkeep : Upkeep { capture := (· = p) } s (Machine.admitFrame p tg st kind number s) :=
    .admitFrame rfl inRange s
  obtain ⟨g, rest, below, head, run⟩ | ⟨e, mem, ready, unheld, run⟩ | run :=
    admitFrame_cases p tg st kind number s
  all_goals rw [run] at upkeep ⊢
  · have free : (s.page g).state = .free := (h.freeList.2 g).1 (by rw [head]; exact List.mem_cons_self ..)
    have fills := fills_allocatedFrame p tg st g rest (Page.starting st ⟨p, tg⟩ kind number s.timeBase) s
      fun e he same => by
        have ready := ((h.streamPages st).2.1 e he).1
        rw [same, free] at ready
        cases ready
    exact h.fills notCut fills bound isOpen (.inl free) (fills.pageCount_le.trans below) upkeep
  · have stream := ((h.streamPages st).2.1 e mem).2.1
    have fills := fills_reclaimedFrame p tg st e.page (Page.starting st ⟨p, tg⟩ kind number s.timeBase) s
    exact h.fills notCut fills bound isOpen (.inr ⟨ready, unheld, stream⟩)
      ((fills.pageCount_le_of_ready ready stream).trans (h.counts st).within) upkeep
  · exact h.skipFrame notCut

/-- A context aborted is cut. -/
theorem PoolSound.abortContext (h : PoolSound cut due s) (notCut : ¬ cut p tg) :
    PoolSound (fun q u => cut q u ∨ q = p ∧ u = tg) due (abortContext p tg s) := by
  unfold Machine.abortContext
  split
  · next capturing => exact h.abortFrame notCut capturing
  · next other => exact h.cutContext other

theorem PoolSound.takeFrameStart {kind : Byte} {number : Word16} (h : PoolSound cut due s) (notCut : ¬ cut p tg)
    (bindings : BindingsAgree s) (inRange : kind.toNat ≤ 63) :
    PoolSound cut due (takeFrameStart p tg kind number s) := by
  have aborted := h.abortContext (p := p) (tg := tg) notCut
  have bindings' : BindingsAgree (Machine.abortContext p tg s) :=
    bindings.of_quiet fun n => (Upkeep.abortContext (x := {}) p tg s).streams n not_false
  unfold Machine.takeFrameStart
  dsimp only
  split
  · exact aborted.rejectFrame notCut
  · next st found =>
    have bound := binding_of_boundStream found
    have isOpen := isOpen_of_bound bindings' bound
    have starts := starts_startedFrame isOpen
    rw [frameStartFor_eq]
    refine (aborted.of_alike (starts.alike isOpen) (upkeep_startedFrame bound)).admitFrame notCut ?_ ?_ inRange
    · rw [starts.stream]
      exact bound
    · rw [starts.stream]
      rfl

end Sound

end Sys2Proof.Machine

/-! The flips, the subscriptions and the pins keep the pool sound (R90, R91, R102, R115 to R127, R145). -/

namespace Sys2Proof.Machine

/-- Every entry of the pool, the ready lists, the contexts and the holders agrees: no context is cut, no drain due. -/
abbrev Sound (s : State) : Prop := PoolSound uncut noneDue s

theorem alike_setEgress {s : State} {p : Port} {e : Egress} (held : e.held = (s.egress p).held) :
    Alike s (s.setEgress p e) where
  page _ := .refl _
  stream _ := .refl _
  held q := by
    by_cases own : p = q
    · subst own
      rw [State.setEgress_egress_self, held]
    · rw [State.setEgress_egress_ne _ _ own]
  pin _ := rfl
  context _ _ := rfl

namespace Sound

variable {s : State}

theorem setEgress (h : Sound s) {p : Port} {e : Egress} (held : e.held = (s.egress p).held) :
    Sound (s.setEgress p e) :=
  h.of_alike (alike_setEgress held) (Upkeep.setEgress (x := { egress := (· = p) }) rfl ..)

theorem raiseAt (h : Sound s) (p : Port) (n : Notice) : Sound (raiseAt p n s) :=
  h.of_alike (alike_raiseAt ..) (Upkeep.raiseAt (x := {}) ..)

theorem evaluateRelease (h : Sound s) (st : StreamNo) : Sound (evaluateRelease st s) :=
  (PoolSound.evaluateRelease h st).due_mono fun _ => And.left

theorem dropHeld (h : Sound s) (p : Port) : Sound (dropHeld p s) := PoolSound.dropHeld h p

/-! ### The flip decision (R115 to R122) -/

theorem showBlank (h : Sound s) (p : Port) : Sound (showBlank p s) := (h.dropHeld p).setEgress rfl

theorem showOwnPattern (h : Sound s) (p : Port) : Sound (showOwnPattern p s) := by
  refine (h.dropHeld p).setEgress ?_
  split <;> rfl

theorem repeatPage (h : Sound s) (p : Port) : Sound (repeatPage p s) := h.setEgress rfl

theorem withoutCandidate (h : Sound s) (p : Port) (st : StreamNo) : Sound (withoutCandidate p st s) := by
  have blank := h.showBlank p
  have own := h.showOwnPattern p
  have again := h.repeatPage p
  unfold Machine.withoutCandidate stallFrame noCandidate
  split <;> split <;> assumption

/-- A hold taken by an egress that holds nothing else. -/
theorem takeHeld (h : Sound s) {p : Port} {g : PageNo} {e : Egress} (ready : (s.page g).state = .ready)
    (free : (s.egress p).held = none ∨ (s.egress p).held = some g) (held : e.held = some g) :
    Sound ((takeHold (.egress p) g s).setEgress p e) := by
  exact PoolSound.hold (k := .egress p) (x := { egress := (· = p) }) h ready free (held ▸ slotSet_setEgress ..)
    ((Upkeep.takeHold ..).trans (.setEgress rfl ..))

theorem releaseUnless (h : Sound s) (p : Port) (g : PageNo) :
    Sound (releaseUnless p g s) ∧
      (((releaseUnless p g s).egress p).held = none ∨ ((releaseUnless p g s).egress p).held = some g) := by
  refine ⟨PoolSound.releaseUnless h p g, ?_⟩
  rw [releaseUnless_egress_self]
  split
  · next same => exact .inr same
  · exact .inl rfl

theorem takeFromStream (h : Sound s) (p : Port) (st : StreamNo) (tries : Nat) :
    Sound (takeFromStream p st tries s) := by
  revert h
  refine takeFromStream_induction (P := fun s t => Sound s → Sound t) ?_ ?_ ?_ tries s
  · exact fun s h => h.withoutCandidate p st
  · intro s c _ ready h
    obtain ⟨released, free⟩ := h.releaseUnless p c.page
    exact (released.takeHeld ready free rfl).evaluateRelease st
  · exact fun s c t _ _ goesOn h => goesOn (h.releaseUnless p c.page).1

theorem followPage (h : Sound s) (p : Port) (g : PageNo) : Sound (followPage p g s) := by
  have dropped := h.dropHeld p
  unfold Machine.followPage
  split
  · exact (h.repeatPage p).setEgress rfl
  · dsimp only
    split
    · next ready => exact dropped.takeHeld ready (.inl (by rw [dropHeld_egress_self])) rfl
    · exact dropped.showBlank p

theorem takeFromLeader (h : Sound s) (p k : Port) : Sound (takeFromLeader p k s) := by
  unfold Machine.takeFromLeader
  dsimp only
  split
  · exact h.showBlank p
  · exact h.followPage p _
  · exact (h.dropHeld p).setEgress rfl
  · exact h.showBlank p

theorem chooseFrame (h : Sound s) (p : Port) : Sound (chooseFrame p s) := by
  unfold Machine.chooseFrame
  dsimp only
  split
  · exact h.showBlank p
  · split
    · exact h.repeatPage p
    · exact h.takeFromStream p _ _
  · split
    · exact h.repeatPage p
    · exact h.takeFromLeader p _

theorem settleFallback (h : Sound s) (p : Port) (before : Showing) : Sound (settleFallback p before s) := by
  have counted : Sound (s.modEgress p fun e => { e with fallbackFrames := e.fallbackFrames + 1 }) := h.setEgress rfl
  unfold Machine.settleFallback
  dsimp only
  split
  · exact h
  · split
    · exact counted.raiseAt ..
    · exact counted

theorem fullFlip (h : Sound s) (p : Port) : Sound (fullFlip p s) := by
  rw [fullFlip_eq]
  have tracked : Sound (tracked p s) := PoolSound.tracked h p
  have counted : Sound ((settled p s).modEgress p fun e => { e with flips := e.flips + 1 }) :=
    ((tracked.chooseFrame p).settleFallback p _).setEgress rfl
  exact counted.setEgress rfl

theorem clearCursor (h : Sound s) (p : Port) : Sound (clearCursor p s) := by
  have cleared : Sound (s.modEgress p fun e => { e with cursor := none }) := h.setEgress rfl
  unfold Machine.clearCursor
  dsimp only
  split
  · exact cleared.evaluateRelease _
  · exact cleared

theorem raiseFollowersLost (h : Sound s) (k : Port) : Sound (raiseFollowersLost k s) := by
  obtain ⟨pages, freeList, streams⟩ := raiseFollowersLost_pool k s
  exact h.of_alike (PoolSame.alike ⟨pages, freeList, streams⟩ (.raiseFollowersLost ..))
    (Upkeep.raiseFollowersLost (x := {}) ..)

theorem stoppingFlip (h : Sound s) (p : Port) : Sound (stoppingFlip p s) := by
  have stopped : Sound ((Machine.clearCursor p (Machine.dropHeld p s)).modEgress p fun e =>
      e.stopped.applyPendingStopped) := by
    refine ((h.dropHeld p).clearCursor p).setEgress ?_
    dsimp only [Egress.applyPendingStopped]
    split <;> rfl
  exact stopped.raiseFollowersLost p

theorem flipDecision (h : Sound s) (p : Port) : Sound (flipDecision p s) := by
  unfold Machine.flipDecision
  split
  · exact h.stoppingFlip p
  · exact h.fullFlip p

theorem startEgress (h : Sound s) (p : Port) : Sound (startEgress p s) := by
  rw [startEgress_eq]
  have running : Sound (s.setEgress p (s.egress p).starting) := h.setEgress rfl
  exact running.flipDecision p

/-! ### Subscriptions and pins (R45, R123 to R125, R145, R147 to R149) -/

theorem setSubscribers (h : Sound s) (st : StreamNo) (set : BitVec 4) :
    Sound (s.setStream st { s.stream st with subscribers := set }) :=
  h.of_alike (alike_setStream ⟨.rfl, .rfl, rfl, rfl, rfl, rfl⟩)
    (Upkeep.setSubscribers (x := { subscriber := fun _ => True }) fun _ no => absurd trivial no)

theorem leaveSubscription (h : Sound s) (p : Port) : Sound (leaveSubscription p s) := by
  unfold Machine.leaveSubscription
  split
  · exact Sound.evaluateRelease (h.setSubscribers ..) _
  · exact h

theorem subscribe (h : Sound s) (p : Port) (st : StreamNo) : Sound (subscribe p st s) := by
  unfold Machine.subscribe
  have left := h.leaveSubscription p
  generalize Machine.leaveSubscription p s = t at left ⊢
  refine Sound.evaluateRelease ?_ st
  exact (left.setSubscribers st _).setEgress rfl

theorem changeSource (h : Sound s) (p : Port) (v : Source) : Sound (changeSource p v s) :=
  (h.leaveSubscription p).setEgress rfl

theorem pin (h : Sound s) {p : Port} {g : PageNo} (ready : (s.page g).state = .ready) (free : s.pin p = none) :
    Sound ((takeHold (.pin p) g s).setPin p (some g)) :=
  PoolSound.hold (k := .pin p) (x := { pin := (· = p) }) h ready (.inl free) (slotSet_setPin ..)
    ((Upkeep.takeHold ..).trans (.setPin rfl ..))

theorem dropPin (h : Sound s) (p : Port) : Sound (dropPin p s) := PoolSound.dropPin h p

end Sound

end Sys2Proof.Machine

/-! The commands and timers of the streams keep the pool sound (R26 to R36, R40, R41). -/

namespace Sys2Proof.Machine

theorem raiseOwn_setStream {n : OwnNotice} {st : StreamNo} {r : Stream} {s : State}
    (owner : r.owner = (s.stream st).owner) :
    (raiseOwn n st s).setStream st r = raiseOwn n st (s.setStream st r) := by
  unfold raiseOwn
  rw [State.setStream_stream_self, owner]
  split <;> rfl

/-- The counts of an open stream are its page count alone. -/
theorem CountFits.of_open {s : State} {st : StreamNo} {due : Prop} (isOpen : (s.stream st).state.isOpen = true)
    (within : pageCount s st ≤ (s.stream st).quota) : CountFits s st due := by
  obtain ⟨notClosed, notDraining⟩ := (isOpen_iff _).1 isOpen
  exact ⟨within, fun is => absurd is notClosed, fun is => absurd is notDraining⟩

namespace Sound

variable {s : State}

/-- The filling page of a stream is that of the context it is bound to (R53). -/
theorem context_of_filling (h : Sound s) {st : StreamNo} {g : PageNo} (fills : (s.stream st).filling = some g) :
    (s.page g).state = .filling ∧ (s.page g).stream = some st ∧
      ∃ pr, (s.stream st).binding = some pr ∧ s.context pr.port pr.tag = .capturing g := by
  obtain ⟨filling, stream⟩ := ((h.streamPages st).2.2.2 g).1 fills
  obtain ⟨pr, producer⟩ := Option.isSome_iff_exists.1 ((h.pages g).2.2.1.2.1 (by simp [filling])).2
  obtain ⟨iff, binds⟩ := (h.contexts pr.port pr.tag).capturing id g
  have capturing := iff.2 ⟨filling, producer⟩
  obtain ⟨n, stream', bound⟩ := binds capturing
  obtain rfl : n = st := Option.some.inj (stream'.symm.trans stream)
  exact ⟨filling, stream, pr, bound, capturing⟩

/-! ### A stream set up (R28, R30, R31) -/

theorem openStream (h : Sound s) {st : StreamNo} {p : Port} {pr : Pair} {mode : Mode} {quota lines timeout : Nat}
    (closed : (s.stream st).state = .closed) :
    Sound (s.setStream st (Stream.opened p pr mode quota lines timeout)) := by
  have empty := (h.counts st).closed closed
  obtain ⟨filling, ready⟩ := h.filling_none empty
  refine PoolSound.setStream h ready.symm filling.symm (.inr filling) (fun _ _ => id) (.of_open ?_ ?_)
  · rw [State.setStream_stream_self]
    rfl
  · have same : pageCount (s.setStream st (Stream.opened p pr mode quota lines timeout)) st = pageCount s st :=
      pageCount_congr rfl
    rw [same, empty]
    exact Nat.zero_le _

theorem setValues (h : Sound s) {st : StreamNo} {quota lines timeout : Nat}
    (isOpen : (s.stream st).state.isOpen = true) (within : pageCount s st ≤ quota) :
    Sound (s.setStream st ((s.stream st).withValues quota lines timeout)) := by
  refine PoolSound.setStream h rfl rfl (.inl rfl) (fun _ _ => id) (.of_open ?_ ?_)
  · rw [State.setStream_stream_self]
    exact isOpen
  · rw [State.setStream_stream_self]
    exact within

/-- A stream's record replaced by one that differs in what the pool has no part in. -/
theorem setStream (h : Sound s) {st : StreamNo} {r : Stream} (alike : StreamAlike (s.stream st) r) :
    Sound (s.setStream st r) :=
  PoolSound.setStream h alike.ready alike.filling (.inl alike.binding) (fun _ _ => id)
    ⟨by
      rw [State.setStream_stream_self, alike.quota]
      exact (h.counts st).within,
    by
      rw [State.setStream_stream_self, alike.closed]
      exact (h.counts st).closed,
    by
      rw [State.setStream_stream_self, alike.draining, alike.ready, alike.filling]
      exact (h.counts st).draining⟩

theorem raiseOwn (h : Sound s) (n : OwnNotice) (st : StreamNo) : Sound (raiseOwn n st s) :=
  h.of_alike (.raiseOwn ..) (Upkeep.raiseOwn (x := {}) ..)

theorem expire (h : Sound s) (st : StreamNo) : Sound (expire st s) := by
  obtain ⟨awake, run⟩ | ⟨-, -, run⟩ := expire_cases st s
  · rw [run]
    have alike : StreamAlike (s.stream st) { s.stream st with state := .stalled, timer := .stopped } := by
      refine ⟨?_, ?_, rfl, rfl, rfl, rfl⟩
      · obtain state | state := awake <;> simp [state]
      · obtain state | state := awake <;> simp [state]
    exact Sound.raiseOwn (h.setStream alike) ..
  · rw [run]
    exact h.setStream ⟨.rfl, .rfl, rfl, rfl, rfl, rfl⟩

theorem advanceTime (h : Sound s) (n : Nat) : Sound (advanceTime n s) := by
  refine h.of_alike ⟨fun _ => .refl _, fun st => ?_, fun _ => rfl, fun _ => rfl, fun _ _ => rfl⟩
    (Upkeep.advanceTime (x := { timeBase := True }) trivial n s)
  have record : (Machine.advanceTime n s).stream st =
      { s.stream st with timer := (s.stream st).timer.advance n } := Table.get_map ..
  rw [record]
  exact ⟨.rfl, .rfl, rfl, rfl, rfl, rfl⟩

end Sound

/-! ### CLOSE_STREAM (R33 to R35) -/

/-- The stream loses its binding after the abort of its open frame, and the frame's context discards (R33). -/
def unbound (st : StreamNo) (s : State) : State :=
  s.setStream st { s.stream st with binding := none, timer := .stopped }

theorem closeUnbind_of_none {st : StreamNo} {s : State} (none : (s.stream st).filling = none) :
    closeUnbind st s = unbound st s := by
  simp only [closeUnbind, none]
  rfl

theorem closeUnbind_of_filling {st : StreamNo} {g : PageNo} {pr : Pair} {s : State}
    (fills : (s.stream st).filling = some g) (filling : (s.page g).state = .filling)
    (stream : (s.page g).stream = some st) (bound : (s.stream st).binding = some pr) :
    closeUnbind st s = (unbound st (frameAborted g st s)).setContext pr.port pr.tag .discarding := by
  have aborted : abortFrame g (unbound st s) = unbound st (frameAborted g st s) := by
    rw [abortFrame_of_filling (s := unbound st s) filling stream, unbound, unbound, frameAborted_stream_self,
      frameAborted, frameAborted, raiseOwn_setStream (by simp), State.setStream_setStream, State.setStream_stream_self]
    exact congrArg (raiseOwn .skip st) (State.setStream_setStream (clearToFree g s) ..)
  simp only [closeUnbind, fills, bound]
  exact congrArg (fun t : State => t.setContext pr.port pr.tag .discarding) aborted

/-- What the unbinding leaves of the stream's record (R33). -/
theorem closeUnbind_stream {st : StreamNo} {s : State} (h : Sound s) :
    (closeUnbind st s).stream st =
      { s.stream st with
        binding := none, timer := .stopped, filling := none
        aborted := if (s.stream st).filling = none then (s.stream st).aborted else (s.stream st).aborted + 1 } := by
  cases fills : (s.stream st).filling with
  | none =>
    rw [closeUnbind_of_none fills, unbound, State.setStream_stream_self, if_pos rfl, ← fills]
  | some g =>
    obtain ⟨filling, stream, pr, bound, -⟩ := h.context_of_filling fills
    rw [closeUnbind_of_filling fills filling stream bound, State.setContext_stream, unbound,
      State.setStream_stream_self, frameAborted_stream_self, if_neg nofun]

namespace Sound

variable {s : State}

theorem closeUnbind (h : Sound s) {st : StreamNo} (isOpen : (s.stream st).state.isOpen = true) :
    Sound (closeUnbind st s) := by
  cases fills : (s.stream st).filling with
  | none =>
    rw [closeUnbind_of_none fills]
    refine PoolSound.setStream h rfl rfl (.inr fills) (fun _ _ => id) (.of_open ?_ ?_)
    · rw [State.setStream_stream_self]
      exact isOpen
    · rw [State.setStream_stream_self]
      exact (h.counts st).within
  | some g =>
    obtain ⟨filling, stream, pr, bound, capturing⟩ := h.context_of_filling fills
    have aborted := h.abortFrame id capturing
    rw [abortFrame_of_filling filling stream] at aborted
    rw [closeUnbind_of_filling fills filling stream bound]
    refine PoolSound.setContext ?_ id fun _ no => nomatch no
    refine aborted.setStream rfl rfl (.inr ?_) (fun _ _ => id) (.of_open ?_ ?_)
    · rw [frameAborted_stream_self]
    · rw [State.setStream_stream_self, frameAborted_stream_self]
      exact isOpen
    · rw [State.setStream_stream_self]
      exact (aborted.counts st).within

theorem endSubscription (h : Sound s) (j : Port) : Sound (endSubscription j s) := by
  have ended : Sound (s.modEgress j fun e => { e with source := .none, cursor := none }) := h.setEgress rfl
  exact ended.raiseAt ..

theorem endSubscriptions (h : Sound s) (subscribers : BitVec 4) (l : List Port) :
    Sound (endSubscriptions subscribers l s) := by
  induction l generalizing s with
  | nil => exact h
  | cons j rest ih =>
    rw [endSubscriptions_cons]
    split
    · exact ih (h.endSubscription j)
    · exact ih h

theorem closeSubscriptions (h : Sound s) (st : StreamNo) : Sound (closeSubscriptions st s) := by
  rw [closeSubscriptions_eq]
  exact (h.endSubscriptions ..).setSubscribers st _

end Sound

/-- The pages of a stream's ready list that no one holds, oldest first. -/
def unheldPages (s : State) (st : StreamNo) : List PageNo :=
  ((s.stream st).ready.map ReadyEntry.page).filter fun g => decide ((s.page g).holdCount = 0)

theorem StreamPagesExact.unheldPages {s : State} {st : StreamNo} (exact : StreamPagesExact s st) :
    (unheldPages s st).Nodup ∧ ∀ g ∈ Machine.unheldPages s st, UnheldOf s st g := by
  refine ⟨exact.1.filter _, fun g mem => ?_⟩
  obtain ⟨mem, unheld⟩ := List.mem_filter.1 mem
  obtain ⟨e, he, rfl⟩ := List.mem_map.1 mem
  obtain ⟨ready, stream, -⟩ := exact.2.1 e he
  exact ⟨ready, of_decide_eq_true unheld, stream⟩

/-- The frees of R35: the unheld pages of the ready list, oldest first. -/
theorem freesPages_closeDrain {s : State} {st : StreamNo} (exact : StreamPagesExact s st) :
    FreesPages st (unheldPages s st) s (freeAll ((s.stream st).ready.map ReadyEntry.page) s) := by
  rw [freeAll_eq_filter]
  exact freesPages_freeAll exact.unheldPages.1 exact.unheldPages.2

theorem Sound.closeDrain {s : State} {st : StreamNo} (h : Sound s) (none : (s.stream st).filling = none) :
    Sound (closeDrain st s) := by
  have exact := h.streamPages st
  have frees := freesPages_closeDrain exact
  have freed := PoolSound.freesPages h frees exact.unheldPages.1 exact.unheldPages.2 (.freeAll ..)
    (Upkeep.freeAll (x := {}) ..)
  unfold Machine.closeDrain
  dsimp only
  split
  · next empty => exact (freed.reachClosed empty).due_mono fun n is => is.1.resolve_right is.2
  · next some =>
    refine freed.setStream rfl rfl (.inl rfl) (fun n other due => due.resolve_right other) ⟨?_, ?_, fun _ => ?_⟩
    · rw [State.setStream_stream_self]
      exact (freed.counts st).within
    · rw [State.setStream_stream_self]
      exact fun is => nomatch is
    · rw [State.setStream_stream_self]
      refine ⟨?_, fun _ => ⟨Nat.pos_of_ne_zero some, fun e he => ?_⟩⟩
      · rw [frees.stream]
        exact none
      · rw [frees.stream] at he
        obtain ⟨mem, kept⟩ := List.mem_filter.1 he
        have kept := of_decide_eq_true kept
        rw [State.setStream_page, frees.page, if_neg kept]
        exact Nat.pos_of_ne_zero fun unheld =>
          kept (List.mem_filter.2 ⟨List.mem_map_of_mem mem, decide_eq_true unheld⟩)

theorem closeSubscriptions_stream (st : StreamNo) (s : State) :
    (closeSubscriptions st s).stream st = { s.stream st with subscribers := 0#4 } := by
  rw [closeSubscriptions_eq, State.modStream_eq, State.setStream_stream_self, endSubscriptions_stream]

theorem Sound.closeStream {s : State} {st : StreamNo} (h : Sound s) (isOpen : (s.stream st).state.isOpen = true) :
    Sound (Machine.closeDrain st (Machine.closeSubscriptions st (Machine.closeUnbind st s))) := by
  refine ((h.closeUnbind isOpen).closeSubscriptions st).closeDrain ?_
  rw [closeSubscriptions_stream, closeUnbind_stream h]

end Sys2Proof.Machine

/-! The capture units keep the pool sound (R51 to R68), and with them every event: the pool, the streams, the contexts
and the holders stay coherent. -/

namespace Sys2Proof.Machine

/-! ### Lines and metadata (R57 to R60) -/

theorem Alike.refl (s : State) : Alike s s :=
  ⟨fun _ => .refl _, fun _ => .refl _, fun _ => rfl, fun _ => rfl, fun _ _ => rfl⟩

theorem alike_setPage {s : State} {g : PageNo} {r : Page} (h : PageAlike (s.page g) r) : Alike s (s.setPage g r) where
  page a := by
    by_cases own : g = a
    · subst own
      rwa [State.setPage_page_self]
    · rw [State.setPage_page_ne _ _ own]
      exact .refl _
  stream _ := .refl _
  held _ := rfl
  pin _ := rfl
  context _ _ := rfl

theorem alike_stray (p : Port) (s : State) : Alike s (stray p s) :=
  .trans (t := s.modCapture p fun u => { u with strays := u.strays + 1 }) (alike_setCapture rfl) (alike_raiseAt ..)

theorem alike_payloadError (p : Port) (s : State) : Alike s (payloadError p s) :=
  .trans (t := s.modCapture p fun u => { u with payloadErrors := u.payloadErrors + 1 }) (alike_setCapture rfl)
    (alike_raiseAt ..)

theorem alike_formatError (p : Port) (s : State) : Alike s (formatError p s) :=
  .trans (t := s.modCapture p fun u => { u with formatErrors := u.formatErrors + 1 }) (alike_setCapture rfl)
    (alike_raiseAt ..)

theorem alike_storeLine (g : PageNo) (number : Nat) (payload : List Byte) (good : Bool) (s : State) :
    Alike s (storeLine g number payload good s) := by
  unfold storeLine
  dsimp only
  split
  · have stored : Alike s (s.setPage g ((s.page g).withLine number payload.length good)) :=
      alike_setPage ⟨rfl, rfl, rfl, rfl, rfl, rfl⟩
    exact ⟨stored.page, stored.stream, stored.held, stored.pin, stored.context⟩
  · exact alike_setPage ⟨rfl, rfl, rfl, rfl, rfl, rfl⟩

theorem alike_captureStore {p : Port} {tg : Tag} {g : PageNo} {good : Bool} {s stored : State}
    (h : Alike s stored) : Alike s (captureStore p tg g good stored s) := by
  unfold captureStore
  split
  · split
    · exact h
    · exact h.trans (alike_payloadError ..)
  · exact .refl s

theorem alike_takeLine (p : Port) (tg : Tag) (number : Nat) (payload : List Byte) (good : Bool) (s : State) :
    Alike s (takeLine p tg number payload good s) := by
  unfold takeLine
  split
  · exact alike_stray ..
  · exact .refl s
  · exact alike_captureStore (alike_storeLine ..)

theorem alike_takeSideband (p : Port) (tg : Tag) (payload : List Byte) (good : Bool) (s : State) :
    Alike s (takeSideband p tg payload good s) := by
  unfold takeSideband
  split
  · exact alike_stray ..
  · exact .refl s
  · exact alike_captureStore (alike_setPage ⟨rfl, rfl, rfl, rfl, rfl, rfl⟩)

/-! ### Frames that end (R61 to R64) -/

namespace Sound

variable {s : State}

theorem setIdle (h : Sound s) {p : Port} {tg : Tag} (notCapturing : ∀ g, s.context p tg ≠ .capturing g) :
    Sound (s.setContext p tg .idle) :=
  (PoolSound.cutContext h notCapturing).setContext id fun _ no => nomatch no

theorem takeFrameEnd (h : Sound s) (p : Port) (tg : Tag) (good : Bool) (claimed : Nat) :
    Sound (takeFrameEnd p tg good claimed s) := by
  unfold Machine.takeFrameEnd
  split
  · exact h.of_alike (alike_stray ..) (Upkeep.stray (x := { capture := (· = p) }) rfl s)
  · next discarding => exact h.setIdle fun g is => by simp [discarding] at is
  · next g capturing =>
    refine PoolSound.setContext ?_ id fun _ no => nomatch no
    obtain ⟨filling, -, st, stream, -, -⟩ := PoolSound.openFrame h id capturing
    split
    · rw [publishFrame_eq claimed filling stream, publish_eq]
      exact ((PoolSound.offeredFrame h id capturing stream claimed).evaluateRelease st).due_mono fun _ => And.left
    · exact PoolSound.abortFrame h id capturing

end Sound

/-! ### Contexts aborted one after the other (R66, R68) -/

theorem PoolSound.abortContexts {cut : Port → Tag → Prop} {due : StreamNo → Prop} {s : State} {p : Port}
    {tags : List Tag} (h : PoolSound cut due s) (nodup : tags.Nodup) (notCut : ∀ tg ∈ tags, ¬ cut p tg) :
    PoolSound (fun q u => cut q u ∨ q = p ∧ u ∈ tags) due (abortContexts p tags s) := by
  induction tags generalizing s cut with
  | nil =>
    have same : (fun q u => cut q u ∨ q = p ∧ u ∈ ([] : List Tag)) = cut := by
      funext q u
      simp
    rw [same]
    exact h
  | cons tg rest ih =>
    obtain ⟨fresh, nodup⟩ := List.nodup_cons.1 nodup
    have aborted := h.abortContext (notCut tg (List.mem_cons_self ..))
    have same : (fun q u => cut q u ∨ q = p ∧ u ∈ tg :: rest) =
        fun q u => (cut q u ∨ q = p ∧ u = tg) ∨ q = p ∧ u ∈ rest := by
      funext q u
      simp only [List.mem_cons, and_or_left, or_assoc]
    rw [same]
    refine ih aborted nodup fun u mem cut => ?_
    obtain before | ⟨-, rfl⟩ := cut
    · exact notCut u (List.mem_cons_of_mem _ mem) before
    · exact fresh mem

/-- The capture unit of a port that has lost its frames, no context of it left CAPTURING. -/
theorem Sound.setCapture_of_aborted {s : State} (h : Sound s) {p : Port} {v : Capture}
    (idle : ∀ u g, Table.get v.contexts u ≠ .capturing g) :
    Sound ((abortContexts p allTags s).setCapture p v) := by
  refine (PoolSound.abortContexts h (by decide) fun _ _ => id).setCapture (fun q u other => by simp [other])
    fun u => .inr ⟨.inr ⟨rfl, ?_⟩, id, idle u⟩
  revert u
  decide

theorem Sound.laneLost {s : State} (h : Sound s) (p : Port) : Sound (laneLost p s) := by
  rw [laneLost_eq]
  refine Sound.raiseAt (h.setCapture_of_aborted fun u g => ?_) ..
  rw [Table.get_replicate]
  exact nofun

theorem Context.afterPortReset_ne_capturing (c : Context) (g : PageNo) : c.afterPortReset ≠ .capturing g := by
  cases c <;> exact nofun

theorem Sound.resetCapture {s : State} (h : Sound s) (p : Port) : Sound (resetCapture p s) := by
  refine h.setCapture_of_aborted fun u g => ?_
  dsimp only
  rw [Table.get_map]
  exact Context.afterPortReset_ne_capturing _ g

/-! ### RESET_PORT (R170) -/

theorem Sound.resetEgress {s : State} (h : Sound s) (p : Port) : Sound (resetEgress p s) := by
  cases lock : (s.egress p).lock with
  | true => rwa [resetEgress_of_locked lock]
  | false =>
    rw [resetEgress_of_unlocked lock]
    have before : Sound (beforeReset p s) := by
      unfold beforeReset
      split
      · exact (h.raiseFollowersLost p).dropHeld p
      · exact h.dropHeld p
    refine (before.leaveSubscription p).setEgress ?_
    rw [leaveSubscription_egress, beforeReset_egress_self]
    rfl

theorem Sound.setNotice {s : State} (h : Sound s) (p : Port) (v : NoticeUnit) : Sound (s.setNotice p v) :=
  h.of_alike ⟨fun _ => .refl _, fun _ => .refl _, fun _ => rfl, fun _ => rfl, fun _ _ => rfl⟩
    (Upkeep.setNotice (x := { notice := (· = p) }) (.inl rfl))

theorem Sound.resetPort {s : State} (h : Sound s) (p : Port) : Sound (resetPort p s) :=
  Sound.setNotice (((h.resetCapture p).resetEgress p).dropPin p) ..

/-! ### Every event -/

theorem Alike.of_same {s t : State} (pages : t.pages = s.pages) (streams : t.streams = s.streams)
    (egresses : t.egresses = s.egresses) (pins : t.pins = s.pins) (captures : t.captures = s.captures) : Alike s t where
  page g := by
    have same : t.page g = s.page g := congrArg (Table.get · g) pages
    exact same ▸ .refl _
  stream n := by
    have same : t.stream n = s.stream n := congrArg (Table.get · n) streams
    exact same ▸ .refl _
  held p := by rw [State.egress, egresses, State.egress]
  pin p := by rw [State.pin, pins, State.pin]
  context p tg := by rw [State.context, State.capture, captures, State.context, State.capture]

theorem Effect.sound {c : Instr} {s u : State} (effect : Effect s c u) (h : Sound s) (relations : RelationsHold s)
    (notReset : ¬ isReset c) : Sound u := by
  have upkeep := effect.upkeep notReset
  cases effect with
  | read => exact h
  | resetPort p => exact h.resetPort p
  | openStream _ _ _ closed => exact h.openStream closed
  | setStream _ _ owned within => exact h.setValues (isOpen_of_ownerTests owned).2.1 within
  | closeStream _ owned => exact h.closeStream (isOpen_of_ownerTests owned).2.1
  | lockStream => exact h.setStream ⟨.rfl, .rfl, rfl, rfl, rfl, rfl⟩
  | setTiming =>
    refine h.setEgress ?_
    unfold Egress.storeTiming
    split <;> rfl
  | startEgress => exact h.startEgress _
  | stopEgress => exact h.setEgress rfl
  | setTracking => exact h.setEgress rfl
  | trackNow => exact h.setEgress rfl
  | subscribe => exact h.subscribe ..
  | follow => exact h.changeSource ..
  | detach => exact h.changeSource ..
  | freeze => exact h.setEgress rfl
  | thaw => exact h.setEgress rfl
  | setFallback => exact h.setEgress rfl
  | lockEgress => exact h.setEgress rfl
  | pinPage free ready => exact h.pin ready free
  | pinNewest free ready => exact h.pin ready free
  | unpin p => exact h.dropPin p
  | writePattern => exact h.of_alike (.of_same rfl rfl rfl rfl rfl) upkeep
  | lockPattern => exact h.of_alike (.of_same rfl rfl rfl rfl rfl) upkeep
  | readNotices => exact h.setNotice ..
  | setMask => exact h.setNotice ..
  | setWatch => exact h.setNotice ..
  | clearWatch => exact h.setNotice ..
  | frameStart inRange => exact PoolSound.takeFrameStart h id relations.bindings (of_decide_eq_true inRange)
  | line => exact h.of_alike (alike_takeLine ..) upkeep
  | sideband => exact h.of_alike (alike_takeSideband ..) upkeep
  | frameEnd => exact h.takeFrameEnd ..
  | formatError => exact h.of_alike (alike_formatError ..) upkeep
  | laneDown p => exact h.laneLost p
  | laneUp => exact h.of_alike (alike_setCapture rfl) upkeep
  | stallTimerExpiry => exact h.expire _
  | flip => exact h.flipDecision _
  | noLine => exact h.setEgress rfl
  | egressLine => exact h.setEgress rfl
  | powerOnReset => exact absurd (.inl rfl) notReset
  | partReset => exact absurd (.inr rfl) notReset
  | resetEnd => exact h.of_alike (.of_same rfl rfl rfl rfl rfl) upkeep
  | cfgholdChange => exact h.of_alike (.of_same rfl rfl rfl rfl rfl) upkeep
  | timeBaseTick n => exact h.advanceTime n

theorem Sound.setLink {s : State} (h : Sound s) (p : Port) (a : Option Answer) : Sound (s.setLink p a) :=
  h.of_alike (.of_same rfl rfl rfl rfl rfl) (Upkeep.setLink (x := { link := (· = p) }) rfl ..)

theorem sound_exec {c : Instr} {s t : State} (h : Sound s) (relations : RelationsHold s) (run : exec c s = .next t) :
    Sound t := by
  by_cases reset : isReset c
  · exact (exec_atReset run reset).poolSound
  · cases exec_leaves run with
    | nothing => exact h
    | refusal => exact h.setLink ..
    | answer _ effect => exact Sound.setLink (effect.sound h relations reset) ..
    | event _ effect => exact effect.sound h relations reset
    | discarded => exact h.setLink ..

theorem Coherent.relationsHold {s : State} (h : Coherent s) : RelationsHold s :=
  ⟨h.bindings, h.subscriptions, h.followers⟩

theorem coherent_exec (c : Instr) (s t : State) (h : Coherent s) (run : exec c s = .next t) : Coherent t :=
  PoolSound.coherent (sound_exec h.poolSound h.relationsHold run) (commitmentsFit_exec c s t h.commitments run)
    (relationsHold_exec c s t h.relationsHold run) (egressesWellKept_exec h.egresses run)

/-- Settles O58: the pool with its lists, contexts and holders is `Sound`, which each effect keeps; commitments,
bindings and subscriptions, and egresses have their own invariants. -/
theorem stepKeepsCoherence : Obligations.StepKeepsCoherence := fun _ _ coherent run =>
  step_keeps (I := Coherent) (fun _ _ h => ⟨h.freeList, h.pages, h.holders, h.commitments, h.bindings, h.streamPages,
    h.streamCounts, h.contexts, h.egresses, h.followers, h.subscriptions⟩) coherent_exec coherent run

end Sys2Proof.Machine

/-! What a FRAME_START leaves (R39, R42, R54 to R56, R75 to R78). -/

namespace Sys2Proof.Machine

theorem boundStream_of_bound {s : State} {pr : Pair} {st : StreamNo} (bindings : BindingsAgree s)
    (bound : (s.stream st).binding = some pr) : boundStream s pr = some st := by
  obtain ⟨n, found⟩ := Option.isSome_iff_exists.1 ((boundStream_isSome_iff s pr).2 ⟨st, bound⟩)
  have same := binding_of_boundStream found
  rw [found, bindings.2 n st (by rw [same]; rfl) (same.trans bound.symm)]

section exec

variable {p : Port} {tg : Tag} {kind : Byte} {number : Word16} {s : State}

theorem exec_frameStart (out : s.inReset = none) (up : (s.capture p).laneUp = true) (inRange : kind.toNat ≤ 63) :
    exec (.frameStart p tg kind number) s = .next (takeFrameStart p tg kind number s) := by
  change execFrameStart p tg kind number s = _
  rw [execFrameStart, onLane_taken out up, if_pos (by exact decide_eq_true inRange)]

theorem abortContext_of_not_capturing (none : s.context p tg = .idle ∨ s.context p tg = .discarding) :
    abortContext p tg s = s := by
  unfold abortContext
  obtain idle | discarding := none
  · rw [idle]
  · rw [discarding]

theorem takeFrameStart_of_bound {st : StreamNo} {t : State} (aborted : abortContext p tg s = t)
    (bindings : BindingsAgree t) (bound : (t.stream st).binding = some ⟨p, tg⟩) :
    takeFrameStart p tg kind number s = admitFrame p tg st kind number (startedFrame st t) := by
  simp only [takeFrameStart, aborted, boundStream_of_bound bindings bound, frameStartFor_eq]

theorem takeFrameStart_of_unbound (unbound : ∀ n, (s.stream n).binding ≠ some ⟨p, tg⟩)
    (none : s.context p tg = .idle ∨ s.context p tg = .discarding) :
    takeFrameStart p tg kind number s = rejectFrame p tg s := by
  have notFound : boundStream s ⟨p, tg⟩ = .none := Option.not_isSome_iff_eq_none.1 fun found => by
    obtain ⟨n, bound⟩ := (boundStream_isSome_iff s _).1 found
    exact unbound n bound
  simp only [takeFrameStart, abortContext_of_not_capturing none, notFound]

end exec

theorem rejectFrame_eq (p : Port) (tg : Tag) (s : State) :
    rejectFrame p tg s = raiseAt p .inReject (s.setCapture p
      { s.capture p with
        contexts := Table.put (s.capture p).contexts tg .discarding
        rejects := (s.capture p).rejects + 1 }) := by
  simp only [rejectFrame, State.setContext_eq, State.modCapture_eq, State.setCapture_capture_self,
    State.setCapture_setCapture]

/-! ### The oldest unheld entry (R8) -/

theorem find?_unheldReady {s : State} {before after : List ReadyEntry} {e : ReadyEntry}
    (held : ∀ x ∈ before, 0 < (s.page x.page).holdCount) (ready : (s.page e.page).state = .ready)
    (unheld : (s.page e.page).holdCount = 0) :
    (before ++ e :: after).find? (fun x => unheldReady s x.page) = some e := by
  have none : before.find? (fun x => unheldReady s x.page) = none := List.find?_eq_none.2 fun x mem is =>
    Nat.lt_irrefl 0 (((unheldReady_iff ..).1 is).2 ▸ held x mem)
  rw [List.find?_append, none, Option.none_or]
  exact List.find?_cons_of_pos (p := fun x : ReadyEntry => unheldReady s x.page)
    ((unheldReady_iff ..).2 ⟨ready, unheld⟩)

theorem filter_ne_page {before after : List ReadyEntry} {e : ReadyEntry}
    (once : ((before ++ e :: after).map ReadyEntry.page).Nodup) :
    (before ++ e :: after).filter (fun x => decide (x.page ≠ e.page)) = before ++ after := by
  rw [List.map_append, List.map_cons, List.nodup_middle, List.nodup_cons, List.mem_append] at once
  have others : ∀ x ∈ before ++ after, decide (x.page ≠ e.page) = true := fun x mem =>
    decide_eq_true fun same => once.1 <| by
      rw [← same]
      exact (List.mem_append.1 mem).imp List.mem_map_of_mem List.mem_map_of_mem
  rw [List.filter_append, List.filter_cons_of_neg (by simp), ← List.filter_append, List.filter_eq_self.2 others]

/-- Settles O41: below the quota admission is `allocatedFrame`, at the quota `reclaimedFrame`. -/
theorem frameStartGetsAPage : Obligations.FrameStartGetsAPage := by
  intro p tg kind number s st r coherent out up inRange hr bound none
  subst hr
  have isOpen := isOpen_of_bound coherent.bindings bound
  have starts := starts_startedFrame isOpen
  have run : exec (.frameStart p tg kind number) s = .next (admitFrame p tg st kind number (startedFrame st s)) := by
    rw [exec_frameStart out up inRange,
      takeFrameStart_of_bound (abortContext_of_not_capturing none) coherent.bindings bound]
  generalize startedFrame st s = v at run starts
  have quota : (v.stream st).quota = (s.stream st).quota := by
    rw [starts.stream]
    rfl
  have start : Page.starting st ⟨p, tg⟩ kind number v.timeBase =
      ⟨.filling, some st, some ⟨p, tg⟩, .none, kind, number, s.timeBase, .none, 0, [], 0, 0, .none, false, 0, 0⟩ := by
    rw [starts.pool.timeBase]
    rfl
  constructor
  · intro g rest below head
    rw [← starts.pageCount, ← quota] at below
    rw [admitFrame_of_below below (starts.freeList.trans head), start] at run
    refine ⟨_, run, rfl, ?_, ?_, fun h other => ?_, fun n other => ?_, fillPage_context_self ..,
      fun stalled o owner => ?_,
      fun awake => starts.notices awake, starts.pool.egresses, starts.pool.pins, starts.pool.frameStore⟩
    · rw [allocatedFrame_stream_self, starts.stream]
      rfl
    · rw [allocatedFrame_page, if_pos rfl]
    · rw [allocatedFrame_page, if_neg other, starts.page]
    · rw [allocatedFrame_stream_ne _ _ _ _ _ _ _ other, starts.others n other]
    · exact starts.raises stalled o owner
  · intro before after e full mode ready held unheld
    have listed := (coherent.streamPages st).2.1 e (by rw [ready]; simp)
    have once := (coherent.streamPages st).1
    rw [ready] at once
    have ready' : (v.stream st).ready = before ++ e :: after := by
      rw [starts.stream]
      exact ready
    have found : (v.stream st).ready.find? (fun x => unheldReady v x.page) = some e := by
      rw [ready']
      refine find?_unheldReady (fun x mem => ?_) ?_ ?_
      all_goals rw [starts.page]
      · exact held x mem
      · exact listed.1
      · exact unheld
    have allowed : ¬ ((v.stream st).mode = .queued ∧ (v.stream st).subscribers ≠ 0#4) := by
      rw [starts.stream]
      rintro ⟨queued, some⟩
      obtain latest | no := mode
      · exact nomatch latest.symm.trans queued
      · exact some no
    rw [← starts.pageCount, ← quota] at full
    rw [admitFrame_of_reclaim full.ge allowed found, start] at run
    refine ⟨_, run, starts.freeList, ?_, ?_, ?_, ?_, ?_, ?_, ?_, fun h other => ?_, fillPage_context_self ..⟩
    · rw [reclaimedFrame_stream_self, ready', filter_ne_page once]
    · rw [reclaimedFrame_stream_self]
    · rw [reclaimedFrame_stream_self, starts.stream]
      rfl
    · rw [reclaimedFrame_stream_self, starts.stream]
      rfl
    · rw [reclaimedFrame_stream_self, starts.stream]
      rfl
    · rw [reclaimedFrame_stream_self, starts.stream, starts.page]
      rfl
    · rw [reclaimedFrame_page, if_pos rfl]
    · rw [reclaimedFrame_page, if_neg other, starts.page]

/-! ### Rejects, skips and aborts (R54, R55, R78) -/

theorem noticesGrow_startedFrame (st : StreamNo) (s : State) : NoticesGrow s (startedFrame st s) := by
  have live : NoticesGrow s (becomeLive st s) := by
    unfold becomeLive
    split
    · exact .of_notices rfl
    · exact .trans (t := s.modStream st fun r => { r with state := .live }) (.of_notices rfl) (.raiseOwn ..)
    · exact .refl s
  exact live.trans (.of_notices rfl)

/-- An abort takes one page from the count of its stream. -/
theorem pageCount_frameAborted {g : PageNo} {st : StreamNo} {s : State} (filling : (s.page g).state = .filling)
    (stream : (s.page g).stream = some st) : pageCount (frameAborted g st s) st < pageCount s st := by
  rw [pageCount_eq_card, pageCount_eq_card]
  refine Finset.card_lt_card (Finset.ssubset_iff_of_subset (fun a mem => ?_) |>.2 ⟨g, ?_, fun mem => ?_⟩)
  · simp only [Finset.mem_filter, Finset.mem_univ, true_and, frameAborted_page] at mem ⊢
    split at mem
    · exact absurd mem.1 nofun
    · exact mem
  · simp [filling, stream]
  · simp [frameAborted_page, Page.cleared] at mem

theorem frameAborted_freeList (g : PageNo) (st : StreamNo) (s : State) :
    (frameAborted g st s).freeList = s.freeList ++ [g] := by
  rw [frameAborted, raiseOwn_freeList]
  rfl

/-- What a skip leaves (R78). -/
theorem skipFrame_stream (p : Port) (tg : Tag) (st : StreamNo) (s : State) :
    (skipFrame p tg st s).stream st = { s.stream st with skipped := (s.stream st).skipped + 1 } := by
  simp [skipFrame]

theorem skipFrame_pool (p : Port) (tg : Tag) (st : StreamNo) (s : State) :
    (skipFrame p tg st s).pages = s.pages ∧ (skipFrame p tg st s).freeList = s.freeList ∧
      (skipFrame p tg st s).context p tg = .discarding := by
  refine ⟨?_, ?_, ?_⟩
  · rw [skipFrame, raiseOwn_pages]
    rfl
  · rw [skipFrame, raiseOwn_freeList]
    rfl
  · rw [skipFrame, (PoolOnly.raiseOwn ..).context]
    exact State.setContext_context_self ..

theorem skipFrame_raises {p o : Port} {tg : Tag} {st : StreamNo} {s : State} (owner : (s.stream st).owner = some o) :
    hasMember ((skipFrame p tg st s).notice o).flags 2 = true ∧
      hasMember ((skipFrame p tg st s).notice o).skipSet st = true :=
  raiseOwn_skip_raises (by simpa using owner)

/-- A stream whose context has no frame open has no filling page. -/
theorem Sound.filling_none_of_context {s : State} (h : Sound s) {p : Port} {tg : Tag} {st : StreamNo}
    (bound : (s.stream st).binding = some ⟨p, tg⟩) (notOpen : s.context p tg = .idle ∨ s.context p tg = .discarding) :
    (s.stream st).filling = none := by
  cases fills : (s.stream st).filling with
  | none => rfl
  | some g =>
    obtain ⟨-, -, pr, bound', capturing⟩ := h.context_of_filling fills
    rw [← Option.some.inj (bound.symm.trans bound')] at capturing
    rw [capturing] at notOpen
    exact notOpen.elim nofun nofun

/-- A FRAME_START that finds no page (R75, R78). -/
theorem frameStart_of_none {p o : Port} {tg : Tag} {kind : Byte} {number : Word16} {s : State} {st : StreamNo}
    (coherent : Coherent s) (bound : (s.stream st).binding = some ⟨p, tg⟩) (owner : (s.stream st).owner = some o)
    (none : s.context p tg = .idle ∨ s.context p tg = .discarding) (full : pageCount s st = (s.stream st).quota)
    (refused : ((s.stream st).mode = .queued ∧ (s.stream st).subscribers ≠ 0#4) ∨
      ∀ e ∈ (s.stream st).ready, 0 < (s.page e.page).holdCount) :
    ∃ t, takeFrameStart p tg kind number s = t ∧ t.pages = s.pages ∧ t.freeList = s.freeList ∧
      t.context p tg = .discarding ∧ (t.stream st).skipped = (s.stream st).skipped + 1 ∧
      (t.stream st).state = .live ∧ (t.stream st).ready = (s.stream st).ready ∧
      (t.stream st).nextSequence = (s.stream st).nextSequence ∧ (t.stream st).filling = .none ∧
      hasMember (t.notice o).flags 2 = true ∧ hasMember (t.notice o).skipSet st = true := by
  have starts := starts_startedFrame (isOpen_of_bound coherent.bindings bound)
  have run := takeFrameStart_of_bound (kind := kind) (number := number) (abortContext_of_not_capturing none)
    coherent.bindings bound
  generalize startedFrame st s = v at run starts
  have fullNow : (v.stream st).quota ≤ pageCount v st := by
    rw [starts.pageCount, full, starts.stream]
    exact le_refl _
  have noneFound : ((v.stream st).mode = .queued ∧ (v.stream st).subscribers ≠ 0#4) ∨
      (v.stream st).ready.find? (fun e => unheldReady v e.page) = .none := by
    rw [starts.stream]
    refine refused.imp id fun held => List.find?_eq_none.2 fun e mem is => ?_
    have unheld := ((unheldReady_iff ..).1 is).2
    rw [starts.page] at unheld
    exact Nat.lt_irrefl 0 (unheld ▸ held e mem)
  rw [admitFrame_of_none fullNow noneFound] at run
  obtain ⟨pages, freeList, context⟩ := skipFrame_pool p tg st v
  have record := skipFrame_stream p tg st v
  rw [starts.stream] at record
  refine ⟨_, run, pages.trans starts.pages, freeList.trans starts.freeList, context, congrArg Stream.skipped record,
    congrArg Stream.state record, (congrArg Stream.ready record).trans rfl,
    (congrArg Stream.nextSequence record).trans rfl, ?_, skipFrame_raises (by rw [starts.stream]; exact owner)⟩
  exact (congrArg Stream.filling record).trans (Sound.filling_none_of_context coherent.poolSound bound none)

/-- A FRAME_START in a CAPTURING context: the abort leaves room for the new frame (R54, R85). -/
theorem frameStart_of_capturing {p o : Port} {tg : Tag} {kind : Byte} {number : Word16} {s : State} {st : StreamNo}
    {g h : PageNo} {rest : List PageNo} (coherent : Coherent s) (bound : (s.stream st).binding = some ⟨p, tg⟩)
    (owner : (s.stream st).owner = some o) (capturing : s.context p tg = .capturing g)
    (head : s.freeList ++ [g] = h :: rest) :
    ∃ t, takeFrameStart p tg kind number s = t ∧ t.context p tg = .capturing h ∧
      t.freeList = rest ∧ (t.stream st).aborted = (s.stream st).aborted + 1 ∧
      (t.stream st).filling = some h ∧ (t.page h).state = .filling ∧
      (h ≠ g → t.page g = Page.cleared) ∧
      hasMember (t.notice o).flags 2 = true ∧ hasMember (t.notice o).skipSet st = true := by
  obtain ⟨filling, -, n, stream, bound', -⟩ := coherent.poolSound.openFrame id capturing
  obtain rfl : n = st := coherent.bindings.2 n st (by rw [bound']; rfl) (bound'.trans bound.symm)
  have aborts : abortContext p tg s = frameAborted g n s :=
    (abortContext_of_capturing capturing).trans (abortFrame_of_filling filling stream)
  have bindings : BindingsAgree (frameAborted g n s) :=
    aborts ▸ coherent.bindings.of_quiet fun m => (Upkeep.abortContext (x := {}) p tg s).streams m not_false
  have record := frameAborted_stream_self g n s
  have boundNow : ((frameAborted g n s).stream n).binding = some ⟨p, tg⟩ := by
    rw [record]
    exact bound
  have run := takeFrameStart_of_bound (kind := kind) (number := number) aborts bindings boundNow
  have starts := starts_startedFrame (isOpen_of_bound bindings boundNow)
  have grows := noticesGrow_startedFrame n (frameAborted g n s)
  obtain ⟨flag, member⟩ := frameAborted_raises g n s owner
  generalize startedFrame n (frameAborted g n s) = v at run starts grows
  have below : pageCount v n < (v.stream n).quota := by
    rw [starts.pageCount, starts.stream, record]
    exact (pageCount_frameAborted filling stream).trans_le (coherent.streamCounts n).1
  rw [admitFrame_of_below below (starts.freeList.trans ((frameAborted_freeList g n s).trans head))] at run
  refine ⟨_, run, fillPage_context_self .., rfl, ?_, ?_, ?_, fun other => ?_, grows.flags o 2 flag,
    grows.skipSet o n member⟩
  · rw [allocatedFrame_stream_self, starts.stream, record]
    rfl
  · rw [allocatedFrame_stream_self]
  · rw [allocatedFrame_page, if_pos rfl]
    rfl
  · rw [allocatedFrame_page, if_neg other.symm, starts.page, frameAborted_page, if_pos rfl]

/-- Settles O42: the three ways of a FRAME_START that admission does not take up at once. -/
theorem frameStartRejectedSkippedOrAborting : Obligations.FrameStartRejectedSkippedOrAborting := by
  intro p tg kind number s out up inRange
  have run := exec_frameStart (tg := tg) (number := number) out up inRange
  refine ⟨fun unbound none => ?_, fun st o coherent bound owner => ⟨fun none full refused => ?_, ?_⟩⟩
  · rw [run, takeFrameStart_of_unbound unbound none, rejectFrame_eq]
  · obtain ⟨t, rfl, left⟩ := frameStart_of_none (kind := kind) (number := number) coherent bound owner none full refused
    exact ⟨_, run, left⟩
  · intro g h rest capturing head
    obtain ⟨t, rfl, left⟩ := frameStart_of_capturing (kind := kind) (number := number) coherent bound owner
      capturing head
    exact ⟨_, run, left⟩

end Sys2Proof.Machine

/-! What CLOSE_STREAM leaves (R33 to R35, R132). -/

namespace Sys2Proof.Machine

/-! ### The unbinding (R33) -/

/-- What the unbinding of a stream leaves: its record apart, the filling page freed and its context discarding. -/
structure Unbinds (st : StreamNo) (s t : State) : Prop where
  others : ∀ n, n ≠ st → t.stream n = s.stream n
  page : ∀ a, t.page a = if (s.stream st).filling = some a then Page.cleared else s.page a
  freeList : t.freeList = s.freeList ++ (s.stream st).filling.toList
  context : ∀ q tg, t.context q tg =
    if (s.stream st).filling.isSome ∧ (s.stream st).binding = some ⟨q, tg⟩ then .discarding else s.context q tg
  raises : (s.stream st).filling.isSome = true → ∀ o, (s.stream st).owner = some o →
    hasMember (t.notice o).flags 2 = true ∧ hasMember (t.notice o).skipSet st = true

theorem unbinds_closeUnbind {st : StreamNo} {s : State} (h : Sound s) : Unbinds st s (closeUnbind st s) := by
  cases fills : (s.stream st).filling with
  | none =>
    rw [closeUnbind_of_none fills]
    exact ⟨fun n other => State.setStream_stream_ne _ _ other.symm, fun a => by simp [fills, unbound],
      by simp [fills, unbound], fun q tg => by simp [fills, unbound], fun no => by simp [fills] at no⟩
  | some g =>
    obtain ⟨filling, stream, pr, bound, capturing⟩ := h.context_of_filling fills
    rw [closeUnbind_of_filling fills filling stream bound]
    refine ⟨fun n other => ?_, fun a => ?_, ?_, fun q tg => ?_, fun _ o owner => frameAborted_raises g st s owner⟩
    · exact (State.setStream_stream_ne _ _ other.symm).trans (frameAborted_stream_ne g st s other.symm)
    · rw [fills]
      exact (frameAborted_page g st s a).trans (if_congr (by rw [Option.some.injEq]) rfl rfl)
    · rw [fills]
      exact frameAborted_freeList g st s
    · have pool : PoolOnly s (unbound st (frameAborted g st s)) :=
        (abortFrame_of_filling filling stream ▸ PoolOnly.abortFrame g s : PoolOnly s (frameAborted g st s)).trans
          (.setStream ..)
      rw [State.setContext_context, pool.context, fills, bound]
      refine if_congr ?_ rfl rfl
      cases pr
      simp

/-! ### The subscriptions (R34, R132) -/

theorem noticesGrow_endSubscription (j : Port) (s : State) : NoticesGrow s (endSubscription j s) :=
  .trans (t := s.modEgress j fun e => { e with source := .none, cursor := none }) (.of_notices rfl) (.raiseAt ..)

theorem noticesGrow_endSubscriptions (subscribers : BitVec 4) (l : List Port) (s : State) :
    NoticesGrow s (endSubscriptions subscribers l s) := by
  induction l generalizing s with
  | nil => exact .refl s
  | cons j rest ih =>
    rw [endSubscriptions_cons]
    split
    · exact (noticesGrow_endSubscription j s).trans (ih _)
    · exact ih s

/-- EG_LOST is raised at every subscriber (R132). -/
theorem endSubscriptions_raises {subscribers : BitVec 4} {l : List Port} {j : Port} (mem : j ∈ l)
    (subscribed : hasMember subscribers j = true) (s : State) :
    hasMember ((endSubscriptions subscribers l s).notice j).flags 7 = true := by
  induction l generalizing s with
  | nil => simp at mem
  | cons k rest ih =>
    rw [endSubscriptions_cons]
    by_cases own : j = k
    · subst own
      rw [if_pos subscribed]
      refine (noticesGrow_endSubscriptions ..).flags j 7 ?_
      rw [endSubscription, hasMember_raiseAt]
      simp [Notice.bit]
    · exact ih ((List.mem_cons.1 mem).resolve_left own) _

/-- The end of a stream's subscriptions touches its subscribers, egresses and notices. -/
theorem closeSubscriptions_pool (st : StreamNo) (s : State) :
    (∀ n, n ≠ st → (closeSubscriptions st s).stream n = s.stream n) ∧
      (∀ g, (closeSubscriptions st s).page g = s.page g) ∧ (closeSubscriptions st s).freeList = s.freeList ∧
      ∀ q tg, (closeSubscriptions st s).context q tg = s.context q tg := by
  have same := endSubscriptions_eq (s.stream st).subscribers allPorts s
  rw [closeSubscriptions_eq, State.modStream_eq]
  refine ⟨fun n other => ?_, fun g => ?_, ?_, fun q tg => ?_⟩
  · rw [State.setStream_stream_ne _ _ other.symm, endSubscriptions_stream]
  · rw [State.setStream_page, same]
    rfl
  · rw [State.setStream_freeList, same]
  · rw [same]
    rfl

theorem noticesGrow_closeSubscriptions (st : StreamNo) (s : State) : NoticesGrow s (closeSubscriptions st s) := by
  rw [closeSubscriptions_eq]
  exact (noticesGrow_endSubscriptions ..).trans (.of_notices rfl)

theorem closeSubscriptions_raises {st : StreamNo} {s : State} {j : Port}
    (subscribed : hasMember (s.stream st).subscribers j = true) :
    hasMember ((closeSubscriptions st s).notice j).flags 7 = true := by
  rw [closeSubscriptions_eq]
  exact endSubscriptions_raises (mem_allPorts j) subscribed s

/-! ### The drain (R35) -/

/-- A stream has no pages exactly when it has none FILLING and none listed. -/
theorem PoolSound.pageCount_eq_zero_iff {cut : Port → Tag → Prop} {due : StreamNo → Prop} {s : State}
    (h : PoolSound cut due s) {st : StreamNo} :
    pageCount s st = 0 ↔ (s.stream st).filling = none ∧ (s.stream st).ready = [] := by
  refine ⟨h.filling_none, fun ⟨filling, ready⟩ => List.countP_eq_zero.2 fun g _ is => ?_⟩
  obtain ⟨stream, used⟩ := Bool.and_eq_true_iff.1 is
  have stream := of_decide_eq_true stream
  cases state : (s.page g).state with
  | free => exact of_decide_eq_true used state
  | filling =>
    have fills := ((h.streamPages st).2.2.2 g).2 ⟨state, stream⟩
    rw [filling] at fills
    cases fills
  | ready =>
    have listed := (h.streamPages st).2.2.1 g state stream
    rw [ready] at listed
    cases listed

/-- What the drain leaves of the stream, of its pages and of the notices. -/
structure Drains (st : StreamNo) (s t : State) : Prop where
  stream : t.stream st =
    { s.stream st with
      state := if (s.stream st).ready.all fun e => decide ((s.page e.page).holdCount = 0) then .closed else .draining
      owner := if (s.stream st).ready.all fun e => decide ((s.page e.page).holdCount = 0) then none
        else (s.stream st).owner
      ready := (s.stream st).ready.filter fun e => decide ((s.page e.page).holdCount ≠ 0)
      reclaimed := (s.stream st).reclaimed + BitVec.ofNat 32 ((s.stream st).ready.countP fun e =>
        decide ((s.page e.page).holdCount = 0) && !(s.page e.page).viewed) }
  others : ∀ n, n ≠ st → t.stream n = s.stream n
  page : ∀ g, t.page g = if g ∈ unheldPages s st then Page.cleared else s.page g
  freeList : t.freeList = s.freeList ++ unheldPages s st
  context : ∀ q tg, t.context q tg = s.context q tg
  grows : NoticesGrow s t
  drained : (t.stream st).state = .closed → ∀ o, (s.stream st).owner = some o →
    hasMember (t.notice o).flags 3 = true ∧ hasMember (t.notice o).drainedSet st = true

theorem drains_closeDrain {st : StreamNo} {s : State} (h : Sound s) (none : (s.stream st).filling = none) :
    Drains st s (closeDrain st s) := by
  have exact := h.streamPages st
  have frees := freesPages_closeDrain exact
  have freed := PoolSound.freesPages h frees exact.unheldPages.1 exact.unheldPages.2 (.freeAll ..)
    (Upkeep.freeAll (x := {}) ..)
  have pool : PoolOnly s (freeAll ((s.stream st).ready.map ReadyEntry.page) s) := .freeAll ..
  have count : ((unheldPages s st).countP fun g => !(s.page g).viewed) =
      (s.stream st).ready.countP fun e => decide ((s.page e.page).holdCount = 0) && !(s.page e.page).viewed := by
    rw [unheldPages, List.countP_filter, List.countP_map]
    exact List.countP_congr fun e _ => by simp [and_comm]
  have kept : ((s.stream st).ready.filter fun e => decide (e.page ∉ unheldPages s st)) =
      (s.stream st).ready.filter fun e => decide ((s.page e.page).holdCount ≠ 0) :=
    List.filter_congr fun e mem => by
      have listed : e.page ∈ (s.stream st).ready.map ReadyEntry.page := List.mem_map_of_mem mem
      rw [unheldPages]
      simp [List.mem_filter, listed]
  obtain ⟨stream, others, page, freeList, notices⟩ := frees
  rw [kept, count] at stream
  unfold closeDrain
  dsimp only
  generalize freeAll ((s.stream st).ready.map ReadyEntry.page) s = u at *
  have empty : pageCount u st = 0 ↔
      ((s.stream st).ready.all fun e => decide ((s.page e.page).holdCount = 0)) = true := by
    rw [freed.pageCount_eq_zero_iff, stream]
    simp [none]
  split
  · next is =>
    have closes := empty.1 is
    have pages : (reachClosed st u).pages = u.pages := by simp [reachClosed]
    refine ⟨?_, fun n other => (reachClosed_stream_ne other u).trans (others n other), fun g => ?_, ?_, fun q tg => ?_,
      ?_, fun _ o owner => ?_⟩
    · rw [reachClosed_stream_self, stream, if_pos closes, if_pos closes]
    · rw [State.page, pages]
      exact page g
    · simp only [reachClosed, State.modStream_eq, State.setStream_freeList, raiseOwn_freeList, freeList]
    · exact (PoolOnly.reachClosed ..).context q tg |>.trans (pool.context q tg)
    · exact .trans (.of_notices notices) ((NoticesGrow.raiseOwn ..).trans (.of_notices rfl))
    · exact raiseOwn_drained_raises (by rw [stream]; exact owner)
  · next some =>
    have goesOn := mt empty.2 some
    refine ⟨?_, fun n other => (State.setStream_stream_ne _ _ other.symm).trans (others n other), page, freeList,
      fun q tg => pool.context q tg, .of_notices notices, fun is => ?_⟩
    · rw [State.modStream_eq, State.setStream_stream_self, stream, if_neg goesOn, if_neg goesOn]
    · rw [State.modStream_eq, State.setStream_stream_self] at is
      cases is

/-! ### The whole of CLOSE_STREAM -/

theorem exec_closeStream_of_passed {p : Port} {stream : Byte} {st : StreamNo} {s : State} (out : s.inReset = none)
    (named : stream.toNat = st.val) (passed : ownerTests p st true s = none) :
    exec (.closeStream p stream) s =
      .next ((closeDrain st (closeSubscriptions st (closeUnbind st s))).acked p []) := by
  change execCloseStream _ _ _ = _
  simp only [execCloseStream, onLink_taken out, argBelow_eq_some_iff.2 named, passed]
  rfl

theorem unheldPages_eq (s : State) (st : StreamNo) : unheldPages s st =
    ((s.stream st).ready.filter fun e => decide ((s.page e.page).holdCount = 0)).map ReadyEntry.page :=
  List.filter_map ..

/-- The pages of a stream that no one holds are the unheld listed ones and the one filling. -/
theorem Sound.unheld_iff {s : State} (h : Sound s) {st : StreamNo} {g : PageNo} :
    (g ∈ unheldPages s st ∨ (s.stream st).filling = some g) ↔
      (s.page g).stream = some st ∧ (s.page g).holdCount = 0 := by
  constructor
  · rintro (mem | fills)
    · have unheld := (h.streamPages st).unheldPages.2 g mem
      exact ⟨unheld.stream, unheld.unheld⟩
    · obtain ⟨filling, stream⟩ := ((h.streamPages st).2.2.2 g).1 fills
      refine ⟨stream, (h.pages g).2.2.2.1.trans ?_⟩
      rw [h.holders_of_filling filling]
      rfl
  · rintro ⟨stream, unheld⟩
    cases state : (s.page g).state with
    | free =>
      rw [(h.pages g).2.2.1.1 state] at stream
      cases stream
    | filling => exact .inr (((h.streamPages st).2.2.2 g).2 ⟨state, stream⟩)
    | ready =>
      exact .inl (List.mem_filter.2 ⟨(h.streamPages st).2.2.1 g state stream, decide_eq_true unheld⟩)

/-- The state in which CLOSE_STREAM drains: the stream unbound, without subscribers and without a filling page. -/
structure ReadyToDrain (st : StreamNo) (s t : State) : Prop where
  stream : t.stream st =
    { s.stream st with
      binding := none, timer := .stopped, filling := none, subscribers := 0#4
      aborted := if (s.stream st).filling = none then (s.stream st).aborted else (s.stream st).aborted + 1 }
  unbinds : Unbinds st s t
  listed : ∀ e ∈ (s.stream st).ready, t.page e.page = s.page e.page
  lost : ∀ j, hasMember (s.stream st).subscribers j = true → hasMember (t.notice j).flags 7 = true

theorem readyToDrain_closeSubscriptions {st : StreamNo} {s : State} (h : Sound s) :
    ReadyToDrain st s (closeSubscriptions st (closeUnbind st s)) := by
  obtain ⟨others, page, freeList, context, raises⟩ := unbinds_closeUnbind (st := st) h
  have record := closeUnbind_stream (st := st) h
  have subscribers := closeUnbind_subscribers st st s
  generalize closeUnbind st s = u at *
  obtain ⟨others', page', freeList', context'⟩ := closeSubscriptions_pool st u
  have grows := noticesGrow_closeSubscriptions st u
  refine ⟨?_, ⟨fun n other => (others' n other).trans (others n other), fun a => (page' a).trans (page a),
    freeList'.trans freeList, fun q tg => (context' q tg).trans (context q tg), fun fills o owner => ?_⟩,
    fun e mem => ?_, fun j subscribed => closeSubscriptions_raises (subscribers ▸ subscribed)⟩
  · rw [closeSubscriptions_stream, record]
  · obtain ⟨flag, member⟩ := raises fills o owner
    exact ⟨grows.flags o 2 flag, grows.skipSet o st member⟩
  · refine ((page' _).trans (page _)).trans (if_neg fun fills => ?_)
    have filling := (((h.streamPages st).2.2.2 _).1 fills).1
    rw [((h.streamPages st).2.1 e mem).1] at filling
    cases filling

theorem ReadyToDrain.unheldPages {st : StreamNo} {s t : State} (h : ReadyToDrain st s t) :
    unheldPages t st = Machine.unheldPages s st := by
  rw [unheldPages_eq, unheldPages_eq, h.stream]
  exact congrArg _ (List.filter_congr fun e mem => by rw [h.listed e mem])

/-- What CLOSE_STREAM leaves of the stream's record (R33 to R35). -/
theorem closeStream_record {st : StreamNo} {p : Port} {s u t : State} (h : ReadyToDrain st s u) (drains : Drains st u t)
    (owner : (s.stream st).owner = some p) : t.stream st =
      { s.stream st with
        state := if (s.stream st).ready.all fun e => decide ((s.page e.page).holdCount = 0) then .closed
          else .draining
        owner := if (s.stream st).ready.all fun e => decide ((s.page e.page).holdCount = 0) then none
          else some p
        binding := none, timer := .stopped, filling := none, subscribers := 0
        ready := (s.stream st).ready.filter fun e => decide ((s.page e.page).holdCount ≠ 0)
        aborted := if (s.stream st).filling.isSome then (s.stream st).aborted + 1 else (s.stream st).aborted
        reclaimed := (s.stream st).reclaimed + BitVec.ofNat 32 ((s.stream st).ready.countP fun e =>
          decide ((s.page e.page).holdCount = 0) && !(s.page e.page).viewed) } := by
  have listed := h.listed
  have all : ((s.stream st).ready.all fun e => decide ((u.page e.page).holdCount = 0)) =
      (s.stream st).ready.all fun e => decide ((s.page e.page).holdCount = 0) := by
    rw [Bool.eq_iff_iff, List.all_eq_true, List.all_eq_true]
    exact forall₂_congr fun e mem => by rw [listed e mem]
  have kept : ((s.stream st).ready.filter fun e => decide ((u.page e.page).holdCount ≠ 0)) =
      (s.stream st).ready.filter fun e => decide ((s.page e.page).holdCount ≠ 0) :=
    List.filter_congr fun e mem => by rw [listed e mem]
  have count : ((s.stream st).ready.countP fun e =>
        decide ((u.page e.page).holdCount = 0) && !(u.page e.page).viewed) =
      (s.stream st).ready.countP fun e => decide ((s.page e.page).holdCount = 0) && !(s.page e.page).viewed :=
    List.countP_congr fun e mem => by rw [listed e mem]
  have aborted : (if (s.stream st).filling = none then (s.stream st).aborted else (s.stream st).aborted + 1) =
      if (s.stream st).filling.isSome then (s.stream st).aborted + 1 else (s.stream st).aborted := by
    cases (s.stream st).filling <;> rfl
  rw [drains.stream, h.stream]
  dsimp only
  rw [all, kept, count, aborted, owner]
  rfl

/-- Settles O20: the unbinding, the end of the subscriptions and the drain, one after the other. -/
theorem closeStreamUnbindsAndFrees : Obligations.CloseStreamUnbindsAndFrees := by
  intro p stream s st coherent named out hold isOpen owner unlocked
  have sound : Sound s := coherent.poolSound
  have passed := ownerTests_of_passed (lockTested := true) hold isOpen owner fun _ => unlocked
  have run := exec_closeStream_of_passed out named passed
  have upkeep := (Effect.closeStream named passed).upkeep (s := s) (fun no => no.elim nofun nofun)
  have egress := closeStream_egress st s
  have before := readyToDrain_closeSubscriptions (st := st) sound
  have soundBefore := (sound.closeUnbind isOpen).closeSubscriptions st
  have drains := drains_closeDrain (st := st) soundBefore (by rw [before.stream])
  generalize closeSubscriptions st (closeUnbind st s) = u at *
  generalize closeDrain st u = t at *
  have ownerBefore : (u.stream st).owner = some p := by
    rw [before.stream]
    exact owner
  have freed := drains.freeList
  have page := drains.page
  rw [before.unheldPages] at freed page
  refine ⟨_, run, State.setLink_link_self .., closeStream_record (t := t) before drains owner,
    fun n other => (drains.others n other).trans (before.unbinds.others n other), fun g => ?_, ?_, egress,
    fun q tg => (drains.context q tg).trans (before.unbinds.context q tg),
    fun j subscribed => drains.grows.flags j 7 (before.lost j subscribed), fun fills => ?_,
    fun closed => drains.drained closed p ownerBefore, Table.ext fun q => upkeep.within.pin q nofun,
    Table.ext fun e => upkeep.within.pattern e nofun, upkeep.within.frameStore id, upkeep.within.timeBase id⟩
  · refine (page g).trans ?_
    rw [before.unbinds.page]
    have all := sound.unheld_iff (st := st) (g := g)
    by_cases unheld : (s.page g).stream = some st ∧ (s.page g).holdCount = 0
    · rw [if_pos unheld]
      obtain mem | fills := all.2 unheld
      · rw [if_pos mem]
      · rw [if_pos fills, ite_self]
    · rw [if_neg unheld, if_neg fun mem => unheld (all.1 (.inl mem)), if_neg fun fills => unheld (all.1 (.inr fills))]
  · refine freed.trans ?_
    rw [before.unbinds.freeList, unheldPages_eq]
  · obtain ⟨flag, member⟩ := before.unbinds.raises fills p owner
    exact ⟨drains.grows.flags p 2 flag, drains.grows.skipSet p st member⟩

end Sys2Proof.Machine

/-! What RESET_PORT leaves (R68, R131, R145, R170). -/

namespace Sys2Proof.Machine

/-- A free page stays free, and no sequence number moves. -/
structure FreeAndSequencesKept (s t : State) : Prop where
  free : ∀ g, (s.page g).state = .free → (t.page g).state = .free
  sequence : ∀ st, (t.stream st).nextSequence = (s.stream st).nextSequence ∧
    (t.stream st).lastSequence = (s.stream st).lastSequence

namespace FreeAndSequencesKept

variable {s t u : State}

theorem refl (s : State) : FreeAndSequencesKept s s := ⟨fun _ => id, fun _ => ⟨rfl, rfl⟩⟩

theorem trans (h : FreeAndSequencesKept s t) (k : FreeAndSequencesKept t u) : FreeAndSequencesKept s u :=
  ⟨fun g => k.free g ∘ h.free g, fun st =>
    ⟨(k.sequence st).1.trans (h.sequence st).1, (k.sequence st).2.trans (h.sequence st).2⟩⟩

theorem of_same (pages : t.pages = s.pages) (streams : t.streams = s.streams) : FreeAndSequencesKept s t :=
  ⟨fun g => by simp [State.page, pages], fun st => by simp [State.stream, streams]⟩

theorem of_cleared (cleared : OnlyCleared s t) (settings : SettingsKept s t) : FreeAndSequencesKept s t := by
  refine ⟨fun g free => ?_, fun st => ?_⟩
  · obtain same | cleared := cleared.page g
    · rwa [same]
    · rw [cleared]
      rfl
  · rw [settings.stream st]
    exact ⟨rfl, rfl⟩

theorem evaluateRelease (st : StreamNo) (s : State) : FreeAndSequencesKept s (evaluateRelease st s) :=
  .of_cleared (.evaluateRelease ..) (.evaluateRelease ..)

theorem releaseHold (h : Holder) (g : PageNo) (s : State) : FreeAndSequencesKept s (releaseHold h g s) := by
  unfold Machine.releaseHold
  split
  · have unheld : FreeAndSequencesKept s (s.modPage g fun r => r.unhold h) := by
      refine ⟨fun a free => ?_, fun st => ⟨rfl, rfl⟩⟩
      rw [State.modPage_eq, State.setPage_page]
      split
      · next own =>
        subst own
        exact free
      · exact free
    refine unheld.trans ?_
    unfold evaluateReleaseOf
    split
    · exact .evaluateRelease ..
    · exact .refl _
  · exact .refl s

theorem dropHeld (p : Port) (s : State) : FreeAndSequencesKept s (dropHeld p s) := by
  unfold Machine.dropHeld
  split
  · exact .refl s
  · exact .trans (t := s.modEgress p fun e => { e with held := none }) (.of_same rfl rfl) (.releaseHold ..)

theorem dropPin (p : Port) (s : State) : FreeAndSequencesKept s (dropPin p s) := by
  unfold Machine.dropPin
  split
  · exact .refl s
  · exact .trans (t := s.setPin p none) (.of_same rfl rfl) (.releaseHold ..)

theorem leaveSubscription (p : Port) (s : State) : FreeAndSequencesKept s (leaveSubscription p s) := by
  unfold Machine.leaveSubscription
  split
  · next st _ =>
    refine .trans (t := s.modStream st fun r => { r with subscribers := dropMember r.subscribers p }) ?_
      (.evaluateRelease ..)
    refine ⟨fun _ => id, fun n => ?_⟩
    rw [State.modStream_eq]
    by_cases own : st = n
    · subst own
      rw [State.setStream_stream_self]
      exact ⟨rfl, rfl⟩
    · rw [State.setStream_stream_ne _ _ own]
      exact ⟨rfl, rfl⟩
  · exact .refl s

theorem abortFrame (g : PageNo) (s : State) : FreeAndSequencesKept s (abortFrame g s) := by
  refine ⟨fun a free => ?_, fun n => ?_⟩
  · rw [abortFrame_page]
    split
    · rfl
    · exact free
  · by_cases own : (s.page g).stream = some n
    · by_cases filling : (s.page g).state = .filling
      · rw [abortFrame_of_filling filling own, frameAborted_stream_self]
        exact ⟨rfl, rfl⟩
      · rw [abortFrame_of_not_filling filling]
        exact ⟨rfl, rfl⟩
    · rw [abortFrame_stream_of_ne g s own]
      exact ⟨rfl, rfl⟩

theorem abortContexts (p : Port) (tags : List Tag) (s : State) :
    FreeAndSequencesKept s (abortContexts p tags s) := by
  induction tags generalizing s with
  | nil => exact .refl s
  | cons tg rest ih =>
    refine .trans ?_ (ih (abortContext p tg s))
    unfold abortContext
    split
    · exact .abortFrame ..
    · exact .refl s

theorem resetEgress (p : Port) (s : State) : FreeAndSequencesKept s (resetEgress p s) := by
  cases lock : (s.egress p).lock with
  | true =>
    rw [resetEgress_of_locked lock]
    exact .refl s
  | false =>
    rw [resetEgress_of_unlocked lock]
    have before : FreeAndSequencesKept s (beforeReset p s) := by
      unfold beforeReset
      refine .trans ?_ (.dropHeld ..)
      split
      · obtain ⟨pages, -, streams⟩ := raiseFollowersLost_pool p s
        exact .of_same pages streams
      · exact .refl s
    exact before.trans ((leaveSubscription ..).trans (.of_same rfl rfl))

end FreeAndSequencesKept

/-! ### The capture unit (R68) -/

theorem resetCapture_eq (p : Port) (s : State) :
    resetCapture p s = (abortContexts p allTags s).setCapture p
      { s.capture p with
        contexts := Table.map Context.afterPortReset (s.capture p).contexts
        formatErrors := 0, payloadErrors := 0, strays := 0, rejects := 0, laneDowns := 0 } := by
  rw [← (PoolOnly.abortContexts p allTags s).capture p]
  rfl

/-- The open frame of every context of the port has lost its page. -/
theorem abortContexts_free {p : Port} {tg : Tag} {g : PageNo} {tags : List Tag} {s : State} (mem : tg ∈ tags)
    (capturing : s.context p tg = .capturing g) (filling : (s.page g).state = .filling) :
    ((abortContexts p tags s).page g).state = .free := by
  induction tags generalizing s with
  | nil => simp at mem
  | cons t rest ih =>
    change ((abortContexts p rest (abortContext p t s)).page g).state = .free
    have later : ((abortContext p t s).page g).state = .free →
        ((abortContexts p rest (abortContext p t s)).page g).state = .free :=
          (FreeAndSequencesKept.abortContexts ..).free g
    by_cases own : tg = t
    · subst own
      refine later ?_
      rw [abortContext_of_capturing capturing, abortFrame_page, if_pos ⟨rfl, filling⟩]
      rfl
    · obtain same | ⟨-, cleared⟩ := abortContext_page p t s g
      · exact ih ((List.mem_cons.1 mem).resolve_left own) (by rwa [(PoolOnly.abortContext ..).context])
          (by rwa [same])
      · exact later (by rw [cleared]; rfl)

theorem FreeAndSequencesKept.resetCapture (p : Port) (s : State) : FreeAndSequencesKept s (resetCapture p s) := by
  rw [resetCapture_eq]
  have aborted := FreeAndSequencesKept.abortContexts p allTags s
  generalize Machine.abortContexts p allTags s = u at aborted ⊢
  exact aborted.trans (.of_same rfl rfl)

theorem resetCapture_context (p : Port) (tg : Tag) (s : State) :
    (resetCapture p s).context p tg = (s.context p tg).afterPortReset := by
  rw [resetCapture_eq, State.context, State.setCapture_capture_self]
  exact Table.get_map ..

/-! ### The whole of RESET_PORT -/

theorem exec_resetPort {p : Port} {s : State} (out : s.inReset = none) :
    exec (.resetPort p) s = .next ((resetPort p s).acked p []) := by
  change execResetPort p s = _
  rw [execResetPort, onLink_taken out]
  rfl

theorem dropPin_pin (p : Port) (s : State) : (dropPin p s).pin p = none := by
  unfold dropPin
  split
  · next none => exact none
  · rw [(PoolOnly.releaseHold ..).pin, State.setPin_pin_self]

/-- What orders 2 to 4 of R170 keep, whatever order 1 left. -/
theorem resetPort_upkeep_rest (p : Port) (s : State) :
    Upkeep { notice := (· = p), subscriber := (· = p), egress := (· = p), pin := (· = p) } s
      (resetNotices p (dropPin p (resetEgress p s))) :=
  (Upkeep.resetEgress rfl rfl s).trans <| (Upkeep.dropPin rfl _).trans (.setNotice (.inl rfl))

theorem freeAndSequencesKept_rest (p : Port) (s : State) :
    FreeAndSequencesKept s (resetNotices p (dropPin p (resetEgress p s))) :=
  (FreeAndSequencesKept.resetEgress p s).trans ((FreeAndSequencesKept.dropPin ..).trans (.of_same rfl rfl))

/-- EG_LOST reaches the followers of an unlocked RUNNING egress (R131). -/
theorem resetPort_raises {p j : Port} {s : State} (unlocked : (s.egress p).lock = false)
    (running : (s.egress p).run = .running) (other : j ≠ p) (follows : (s.egress j).source = .follow p) :
    hasMember ((resetPort p s).notice j).flags 7 = true := by
  have before : ∀ q, (resetCapture p s).egress q = s.egress q := fun q =>
    (resetPort_upkeep_before p s).within.egress q not_false
  rw [resetPort_eq]
  generalize resetCapture p s = u at before ⊢
  rw [← before] at unlocked running follows
  have lost : hasMember ((raiseFollowersLost p u).notice j).flags 7 = true := raiseFollowersLost_raises follows
  rw [resetEgress_of_unlocked unlocked, beforeReset, if_pos running]
  generalize raiseFollowersLost p u = v at lost ⊢
  have dropped : Upkeep { egress := (· = p) } v (dropHeld p v) := .dropHeld rfl v
  generalize dropHeld p v = w at dropped ⊢
  have left : Upkeep { subscriber := (· = p), egress := (· = p) } w
      ((leaveSubscription p w).setEgress p Egress.initial) := (Upkeep.leaveSubscription rfl w).trans (.setEgress rfl ..)
  have rest := resetPort_upkeep_after p ((leaveSubscription p w).setEgress p Egress.initial)
  have raised := (dropped.notices j not_false).trans ((left.notices j not_false).trans (rest.notices j other))
  exact raised.grows.flags 7 lost

theorem resetPort_capture (p : Port) (s : State) : (resetPort p s).capture p =
    ⟨(s.capture p).laneUp, Table.map Context.afterPortReset (s.capture p).contexts, 0, 0, 0, 0, 0⟩ := by
  have kept := (resetPort_upkeep_rest p (resetCapture p s)).within.capture p not_false
  rw [resetPort_eq, kept, resetCapture_eq, State.setCapture_capture_self]

theorem resetPort_free {p : Port} {tg : Tag} {g : PageNo} {s : State} (capturing : s.context p tg = .capturing g)
    (filling : (s.page g).state = .filling) : ((resetPort p s).page g).state = .free := by
  have freed : ((resetCapture p s).page g).state = .free := by
    rw [resetCapture_eq, State.setCapture_page]
    exact abortContexts_free (mem_allTags tg) capturing filling
  have kept := freeAndSequencesKept_rest p (resetCapture p s)
  rw [resetPort_eq]
  exact kept.free g freed

theorem resetPort_sequence (p : Port) (s : State) (st : StreamNo) :
    ((resetPort p s).stream st).nextSequence = (s.stream st).nextSequence ∧
      ((resetPort p s).stream st).lastSequence = (s.stream st).lastSequence := by
  have kept := (FreeAndSequencesKept.resetCapture p s).trans (freeAndSequencesKept_rest p (resetCapture p s))
  rw [resetPort_eq]
  exact kept.sequence st

theorem resetPort_pin (p : Port) (s : State) : (resetPort p s).pin p = none := by
  rw [resetPort_eq]
  generalize resetEgress p (resetCapture p s) = u
  exact dropPin_pin p u

theorem resetPort_notice (p : Port) (s : State) : (resetPort p s).notice p = NoticeUnit.initial := by
  rw [resetPort_eq, resetNotices, State.setNotice_notice_self]

/-- The records that RESET_PORT may touch as a whole. -/
theorem resetPort_upkeep (p : Port) (s : State) :
    Upkeep { notice := (· = p), subscriber := (· = p), egress := (· = p), capture := (· = p), pin := (· = p) } s
      (resetPort p s) := .resetPort rfl rfl rfl rfl rfl s

/-- Settles O15: the capture unit after its aborts, and what the later orders of R170 keep of it. -/
theorem resetPortResetsItsPort : Obligations.ResetPortResetsItsPort := by
  intro p s out
  have run := exec_resetPort (p := p) out
  have upkeep := resetPort_upkeep p s
  have capture := resetPort_capture p s
  have pin := resetPort_pin p s
  have notice := resetPort_notice p s
  have sequence := resetPort_sequence p s
  have locked := @resetPort_egress_of_locked p s
  have unlocked := @resetPort_egress_of_unlocked p s
  have context : ∀ tg, (resetPort p s).context p tg = (s.context p tg).afterPortReset := fun tg => by
    rw [State.context, capture]
    exact Table.get_map ..
  have freed : ∀ tg g, s.context p tg = .capturing g → (s.page g).state = .filling →
      ((resetPort p s).page g).state = .free := fun tg g => resetPort_free
  have raises : (s.egress p).lock = false → (s.egress p).run = .running → ∀ j, j ≠ p →
      (s.egress j).source = .follow p → hasMember ((resetPort p s).notice j).flags 7 = true :=
    fun unlocked running j => resetPort_raises unlocked running
  generalize resetPort p s = t at *
  refine ⟨_, run, State.setLink_link_self .., pin, notice, ?_,
    fun tg g capturing => ⟨(context tg).trans ?_, freed tg g capturing⟩,
    fun tg none => (context tg).trans ?_, fun is => locked is p,
    fun is => (unlocked is p).trans (if_pos rfl), raises,
    fun q other => ⟨upkeep.within.egress q other, upkeep.within.capture q other, upkeep.within.pin q other, ?_⟩,
    fun st => ?_, Table.ext fun e => upkeep.within.pattern e not_false, upkeep.within.frameStore not_false,
    upkeep.within.timeBase not_false, upkeep.within.cfgHold not_false⟩
  · change t.capture p = ⟨_, (t.capture p).contexts, _, _, _, _, _⟩
    rw [capture]
  · rw [capturing]
    rfl
  · obtain idle | discarding := none
    · rw [idle]
      rfl
    · rw [discarding]
      rfl
  · exact (State.setLink_link_ne _ _ other.symm).trans (upkeep.within.link q not_false)
  · have quiet := upkeep.streams st not_false
    exact ⟨quiet.binding, quiet.mode, quiet.quota, quiet.lock, sequence st⟩

end Sys2Proof.Machine
